-- ==== Sys2Proof/Word.lean ====
section
/-! DEFINITION. The machine's words: 8-bit data and 16-bit addresses (R8). -/

namespace Sys2Proof

/-- The 8-bit data unit of registers and of every bus access (R8, R111). -/
abbrev Byte := BitVec 8

/-- A 16-bit register pair, SP, PC or bus address (R8, R100). -/
abbrev Word16 := BitVec 16

end Sys2Proof
end

