-- ==== Sys2Proof/WellFormed.lean ====
section
/-! DEFINITION. The well-formed instructions. Operands are bit vectors of the width their encoding gives them, so every operand value
is admitted (R176); the one check is that the instruction is a defined one and not one of the eleven invalid encodings (R183). -/

namespace Sys2Proof

/-- The eleven invalid unprefixed encodings (R183, R426). -/
def invalidInstrs : List Instr :=
  [.invalid_D3, .invalid_DB, .invalid_DD, .invalid_E3, .invalid_E4, .invalid_EB,
   .invalid_EC, .invalid_ED, .invalid_F4, .invalid_FC, .invalid_FD]

/-- A defined instruction: any row of the table but the eleven invalid ones (R183, R184). -/
def Instr.wellFormed (i : Instr) : Bool := !(invalidInstrs.contains i)

end Sys2Proof
end

