-- ==== Sys2Proof/Config.lean ====
section
/-! DEFINITION. What is fixed for an instance of the machine: the mapper kinds of a cartridge, the pixel colours, and the one
value the model fixes for memory that its cell lists do not mention. The spec leaves no value free (93_implementation_defined.md
part 1), so there is no opaque constant here. -/

namespace Sys2Proof

/-- The mapper variants the block implements (R10, R134 to R142). -/
inductive MapperKind where
  | mbc0 | mbc1 | mbc2 | mbc3
  deriving DecidableEq, Repr

/-- One RGBA32 framebuffer entry (R90, R545). The order of the channels in host memory is outside the block. -/
structure Rgba where
  r : Byte
  g : Byte
  b : Byte
  a : Byte
  deriving DecidableEq, Repr

namespace Config

/-- DESIGN CHOICE (log 2), unsafe: what an address that a cell list does not mention reads as.
The spec leaves initial memory to the parameter `INIT_MEM` (R11, R716), which is the argument of `State.resetWith`. -/
def unlistedByte : Byte := 0x00

/-- The colour of shade 0, 1, 2, 3 (R545, C13). -/
def shadeColour (shade : BitVec 2) : Rgba :=
  match shade with
  | 0 => ⟨0xFF, 0xFF, 0xFF, 0xFF⟩
  | 1 => ⟨0xAA, 0xAA, 0xAA, 0xFF⟩
  | 2 => ⟨0x55, 0x55, 0x55, 0xFF⟩
  | 3 => ⟨0x00, 0x00, 0x00, 0xFF⟩

/-- `White` of R535 and R540: the colour of shade 0. -/
def white : Rgba := ⟨0xFF, 0xFF, 0xFF, 0xFF⟩

end Config

end Sys2Proof
end

