-- ==== Sys2Proof/Machine/State.lean ====
section
/-! DEFINITION. The machine's state as plain data (10_state.md), why a step can stop, and the state after reset (R714). -/

namespace Sys2Proof.Machine

/-- A memory: cells in strictly rising order of their index, none holding what an unlisted index reads as.
The index is the offset inside the region (R101). -/
abbrev Memory := List Host.Cell

/-- The CPU's registers (R30, R34, R35) and hidden state (R36 to R42). -/
structure Cpu where
  a : Byte
  f : Byte
  b : Byte
  c : Byte
  d : Byte
  e : Byte
  h : Byte
  l : Byte
  sp : Word16
  pc : Word16
  /-- IME (R36). -/
  ime : Bool
  /-- `enable_next`, set by EI (R37). -/
  enableNext : Bool
  /-- `ei_pending`, the latch of R404. DESIGN CHOICE (log 6), safe: false between instructions. -/
  eiPending : Bool
  /-- Suspended by HALT (R38). -/
  halt : Bool
  /-- HALT entered with IME = 0 (R39). -/
  haltDI : Bool
  /-- Suspended by STOP (R40). -/
  stopped : Bool
  /-- The next opcode fetch does not advance PC (R41). -/
  haltBug : Bool
  /-- `locked` (R42) with the opcode the exception records (R430): `none` is locked = 0. -/
  locked : Option Byte
  deriving DecidableEq, Repr

/-- DIV, TIMA, TMA, TAC and `tima_overflow` (R50 to R53, R76). -/
structure Timer where
  divCounter : Word16
  tima : Byte
  tma : Byte
  on : Bool
  clockSelect : BitVec 2
  timaOverflow : Bool
  deriving DecidableEq, Repr

/-- The serial stub: SB and bits 7 and 0 of SC (R49). -/
structure Serial where
  sb : Byte
  scBit7 : Bool
  scBit0 : Bool
  deriving DecidableEq, Repr

/-- The eight host-driven buttons, true = pressed (R87). -/
structure Keys where
  right : Bool
  left : Bool
  up : Bool
  down : Bool
  a : Bool
  b : Bool
  select : Bool
  start : Bool
  deriving DecidableEq, Repr

/-- JOYP's row select, bits 5:4 (R48), and the key state (R87). -/
structure Joypad where
  select : BitVec 2
  keys : Keys
  deriving DecidableEq, Repr

/-- The OAM DMA engine (R73, R86). -/
structure Dma where
  reg : Byte
  active : Bool
  source : Word16
  offset : Nat
  cycles : Nat
  deriving DecidableEq, Repr

/-- The PPU's four modes (R77). -/
inductive PpuMode where
  | hBlank | vBlank | oamScan | transfer
  deriving DecidableEq, Repr

/-- The PPU's registers (R68 to R75) and internal state (R77). -/
structure Ppu where
  lcdc : Byte
  /-- STAT[6:3]: bit 0 HBlank, bit 1 VBlank, bit 2 OAMScan, bit 3 LYC=LY interrupt enable (R69). -/
  statEnables : BitVec 4
  scy : Byte
  scx : Byte
  ly : Byte
  lyc : Byte
  bgp : Byte
  obp0 : Byte
  obp1 : Byte
  wy : Byte
  wx : Byte
  mode : PpuMode
  lineCycle : Nat
  coincidence : Bool
  cachedWy : Byte
  windowLine : Byte
  frameCounter : Nat
  fakeLy : Nat
  newFrameEdge : Bool
  deriving DecidableEq, Repr

/-- A volume envelope (R84). `timer` is an integer: no source gives its width (log 8). -/
structure Envelope where
  initialVolume : BitVec 4
  up : Bool
  period : BitVec 3
  timer : Int
  volume : BitVec 4
  automatic : Bool
  deriving DecidableEq, Repr

/-- ch1's frequency sweep (R81). -/
structure Sweep where
  period : BitVec 3
  subtract : Bool
  shift : BitVec 3
  timer : Int
  frequency : BitVec 11
  calculatedSubtract : Bool
  enabled : Bool
  deriving DecidableEq, Repr

/-- A square channel, ch1 or ch2 (R80). Its `period` is computed (R593, log 7). -/
structure Square where
  duty : BitVec 2
  dutyPhase : BitVec 3
  freq : BitVec 11
  counter : Int
  dutyBit : Bool
  length : Nat
  lengthEnabled : Bool
  env : Envelope
  dacEnabled : Bool
  status : Bool
  deriving DecidableEq, Repr

/-- One slot of ch3's recent-sample log (R82). -/
structure WaveLogEntry where
  time : Option Nat
  position : BitVec 5
  byte : Byte
  data : BitVec 4
  deriving DecidableEq, Repr

/-- The wave channel ch3 with wave RAM (R67, R82). `playing` is `status` (D31). -/
structure Wave where
  dacEnabled : Bool
  volumeCode : BitVec 2
  ram : Memory
  position : BitVec 5
  freq : BitVec 11
  counter : Int
  sampleData : BitVec 4
  log0 : WaveLogEntry
  log1 : WaveLogEntry
  /-- `log_next`: true when slot 1 is written next. -/
  logNext : Bool
  length : Nat
  lengthEnabled : Bool
  status : Bool
  deriving DecidableEq, Repr

/-- The noise channel ch4 (R83). `divisorCode` is NR43[2:0]. -/
structure Noise where
  clockShift : BitVec 4
  width7 : Bool
  divisorCode : BitVec 3
  counter : Int
  lfsr : BitVec 15
  sampleBit : Bool
  length : Nat
  lengthEnabled : Bool
  env : Envelope
  dacEnabled : Bool
  status : Bool
  deriving DecidableEq, Repr

/-- The APU: global state (R85), NR50, NR51 (R64, R65) and the four channels. -/
structure Apu where
  powered : Bool
  nr50 : Byte
  nr51 : Byte
  fsStep : BitVec 3
  fsCounter : Nat
  ch1 : Square
  sweep : Sweep
  ch2 : Square
  ch3 : Wave
  ch4 : Noise
  deriving DecidableEq, Repr

/-- MBC1's `bank_mode` (R88). -/
inductive BankMode where
  | rom | ram
  deriving DecidableEq, Repr

/-- The mapper's registers (R88). -/
structure Mapper where
  romBank : BitVec 7
  extRamBank : BitVec 3
  extRamEnabled : Bool
  byte2000 : BitVec 5
  byte4000 : BitVec 2
  bankMode : BankMode
  deriving DecidableEq, Repr

/-- The cartridge: image and configuration (R10, R94). No step changes it (log 1). -/
structure Cartridge where
  rom : Memory
  romSize : Nat
  kind : MapperKind
  extRamSize : Nat
  hasBattery : Bool
  deriving DecidableEq, Repr

/-- One stereo pair of the sample ring, left then right (R694). -/
structure Sample where
  left : BitVec 16
  right : BitVec 16
  deriving DecidableEq, Repr

/-- The event flags a `run_until_event` call returns (R91, R695). -/
structure Events where
  newFrame : Bool
  soundBufferFull : Bool
  deriving DecidableEq, Repr

/-- The parameter `INIT_MEM`: what each memory holds at creation (R11, R716). -/
structure InitMem where
  vram : Memory
  wram : Memory
  hram : Memory
  oam : Memory
  waveRam : Memory
  eram : Memory
  deriving DecidableEq, Repr

/-- The whole machine. -/
structure State where
  cpu : Cpu
  /-- IE, all 8 bits stored (R43). -/
  ie : Byte
  /-- IF[4:0] (R44). -/
  iflag : BitVec 5
  timer : Timer
  serial : Serial
  joypad : Joypad
  dma : Dma
  ppu : Ppu
  apu : Apu
  mapper : Mapper
  cart : Cartridge
  vram : Memory
  wram : Memory
  hram : Memory
  oam : Memory
  eram : Memory
  /-- 144 rows of 160 entries (R90). -/
  framebuffer : List (List Rgba)
  /-- The sample ring, NEWEST FIRST (log 9). -/
  samples : List Sample
  events : Events
  /-- The global cycle counter (R92). -/
  cycles : Nat
  deriving DecidableEq, Repr

/-- Why a step stops. -/
inductive Fault where
  /-- Raised by an invalid opcode (R426) and by every step of a locked machine (R690).
  It is the exception Locked(op) of R430. Safe: the spec gives the locked machine no further step. -/
  | locked (op : Byte)
  deriving DecidableEq, Repr

/-- Why an instruction has no meaning. -/
inductive Refusal where
  /-- An arm of `exec` without a meaning; no arm of this model raises it. Safe. -/
  | notModelled (mnemonic : String)
  deriving DecidableEq, Repr

/-- The outcome of an instruction or of a step. -/
abbrev Result := Host.Outcome State Fault Refusal

/-- An `INIT_MEM` in which nothing is listed. -/
def InitMem.blank : InitMem := ⟨[], [], [], [], [], []⟩

/-- The cartridge of `State.reset`: a 32 KiB image whose bytes are all the unlisted byte 0x00.
Its header codes are then 0x00, an MBC0 cartridge without RAM (R151 to R153; DESIGN CHOICE, log 1). -/
def Cartridge.blank : Cartridge := ⟨[], 32768, .mbc0, 0, false⟩

/-- The reset state of R714 for a cartridge and an `INIT_MEM`. That it is the base state of R711 after the writes of R713
is `reset_is_base_after_postBoot` in Sys2Proof/Tests/Slice0.lean. -/
def State.resetWith (cart : Cartridge) (init : InitMem) : State where
  cpu :=
    { a := 0x01, f := 0xB0, b := 0x00, c := 0x13, d := 0x00, e := 0xD8, h := 0x01, l := 0x4D
      sp := 0xFFFE, pc := 0x0100
      ime := false, enableNext := false, eiPending := false
      halt := false, haltDI := false, stopped := false, haltBug := false, locked := none }
  ie := 0x00
  iflag := 0
  timer := { divCounter := 0, tima := 0, tma := 0, on := false, clockSelect := 0, timaOverflow := false }
  serial := { sb := 0, scBit7 := false, scBit0 := false }
  joypad := { select := 0, keys := ⟨false, false, false, false, false, false, false, false⟩ }
  dma := { reg := 0xFF, active := false, source := 0xFF00, offset := 0, cycles := 0 }
  ppu :=
    { lcdc := 0x91, statEnables := 0, scy := 0, scx := 0, ly := 0, lyc := 0
      bgp := 0xFC, obp0 := 0xFF, obp1 := 0xFF, wy := 0, wx := 0
      mode := .oamScan, lineCycle := 0, coincidence := true, cachedWy := 0, windowLine := 0
      frameCounter := 0, fakeLy := 0, newFrameEdge := false }
  apu :=
    { powered := true, nr50 := 0x77, nr51 := 0xF3, fsStep := 7, fsCounter := 0
      ch1 :=
        { duty := 2, dutyPhase := 0, freq := 0x700, counter := 1024, dutyBit := false
          length := 1, lengthEnabled := false
          env := { initialVolume := 15, up := false, period := 3, timer := 3, volume := 15, automatic := true }
          dacEnabled := true, status := true }
      sweep :=
        { period := 0, subtract := false, shift := 0, timer := 8, frequency := 0x700
          calculatedSubtract := false, enabled := false }
      ch2 :=
        { duty := 0, dutyPhase := 0, freq := 0x700, counter := 1024, dutyBit := false
          length := 1, lengthEnabled := false
          env := { initialVolume := 0, up := false, period := 0, timer := 0, volume := 0, automatic := true }
          dacEnabled := false, status := false }
      ch3 :=
        { dacEnabled := false, volumeCode := 0, ram := init.waveRam, position := 0, freq := 0x700
          counter := 512, sampleData := 0
          log0 := ⟨none, 0, 0, 0⟩, log1 := ⟨none, 0, 0, 0⟩, logNext := false
          length := 1, lengthEnabled := false, status := false }
      ch4 :=
        { clockShift := 0, width7 := false, divisorCode := 0, counter := 8, lfsr := 0x7FFF
          sampleBit := false, length := 1, lengthEnabled := false
          env := { initialVolume := 0, up := false, period := 0, timer := 0, volume := 0, automatic := true }
          dacEnabled := false, status := false } }
  mapper :=
    { romBank := 1, extRamBank := 0
      extRamEnabled := decide (cart.kind = .mbc0 ∧ 0 < cart.extRamSize)
      byte2000 := 0, byte4000 := 0, bankMode := .rom }
  cart := cart
  vram := init.vram
  wram := init.wram
  hram := init.hram
  oam := init.oam
  eram := init.eram
  framebuffer := List.replicate 144 (List.replicate 160 Config.white)
  samples := []
  events := ⟨false, false⟩
  cycles := 0

/-- The machine right after reset with the blank cartridge and nothing listed in memory. -/
def State.reset : State := State.resetWith Cartridge.blank InitMem.blank

end Sys2Proof.Machine
end

