-- ==== Sys2Proof/Machine/Memory.lean ====
section
/-! DEFINITION. The operations on one memory: read a byte, write a byte, the canonical form, a memory from a byte sequence. -/

namespace Sys2Proof.Machine

/-- The byte at an index; an unlisted index reads as `Config.unlistedByte`. -/
def Memory.read (m : Memory) (k : Nat) : Byte :=
  match m with
  | [] => Config.unlistedByte
  | (j, v) :: rest => if j = k then v else Memory.read rest k

/-- The cells without the one at an index. -/
def Memory.erase (m : Memory) (k : Nat) : Memory :=
  match m with
  | [] => []
  | (j, v) :: rest => if j = k then Memory.erase rest k else (j, v) :: Memory.erase rest k

/-- The cells with one more at an index, in rising order, in place of the one that was there. -/
def Memory.insert (m : Memory) (k : Nat) (v : Byte) : Memory :=
  match m with
  | [] => [(k, v)]
  | (j, w) :: rest =>
    if k < j then (k, v) :: (j, w) :: rest
    else if j = k then (k, v) :: rest
    else (j, w) :: Memory.insert rest k v

/-- Store a byte at an index, keeping the canonical form. -/
def Memory.write (m : Memory) (k : Nat) (v : Byte) : Memory :=
  if v = Config.unlistedByte then m.erase k else m.insert k v

/-- The canonical form: indexes strictly rising, no cell equal to what an unlisted index reads as. -/
abbrev Memory.wf (m : Memory) : Prop :=
  m.Pairwise (fun p q => p.1 < q.1) ∧ ∀ cell ∈ m, cell.2 ≠ Config.unlistedByte

/-- Every listed index is below the memory's size. -/
abbrev Memory.below (m : Memory) (size : Nat) : Prop := ∀ cell ∈ m, cell.1 < size

/-- The cells of a byte sequence that starts at an index. -/
def Memory.cellsFrom (k : Nat) (bytes : List Byte) : Memory :=
  match bytes with
  | [] => []
  | v :: rest =>
    if v = Config.unlistedByte then Memory.cellsFrom (k + 1) rest
    else (k, v) :: Memory.cellsFrom (k + 1) rest

/-- The memory that holds a byte sequence from index 0. -/
def Memory.ofBytes (bytes : List Byte) : Memory := Memory.cellsFrom 0 bytes

end Sys2Proof.Machine
end

