-- ==== Sys2Proof/Machine/Apu.lean ====
section
/-! DEFINITION. The APU: frame sequencer, channels, mixer, register writes and reads, power, wave RAM (64_apu.md, R580 to R640).
Everything here is about the APU's own record; the absolute cycle it needs is an argument. -/

namespace Sys2Proof.Machine

/-! ### Periods (R593) -/

/-- ch1 and ch2: `(2048 - freq)·4` cycles. -/
def Square.period (ch : Square) : Int := (2048 - ch.freq.toNat) * 4

/-- ch3: `(2048 - freq)·2` cycles. -/
def Wave.period (ch : Wave) : Int := (2048 - ch.freq.toNat) * 2

/-- ch4's divisor: 8 for code 0, else 16·code (R63, R609). -/
def Noise.divisor (ch : Noise) : Nat := if ch.divisorCode = 0 then 8 else 16 * ch.divisorCode.toNat

/-- ch4: `divisor·2^clock_shift` cycles. -/
def Noise.period (ch : Noise) : Int := ch.divisor * 2 ^ ch.clockShift.toNat

/-! ### The frame sequencer's clocks -/

/-- `NextStepIsLength()` (R582): the step last executed is odd. -/
def Apu.nextIsLength (p : Apu) : Bool := p.fsStep.getLsbD 0

/-- `NextStepIsEnvelope()` (R582). -/
def Apu.nextIsEnvelope (p : Apu) : Bool := p.fsStep == 6

/-- `LengthClock` on a channel's length and status (R583). -/
def lengthClock (enabled : Bool) (length : Nat) (status : Bool) : Nat × Bool :=
  if enabled ∧ 0 < length then (length - 1, if length - 1 = 0 then false else status) else (length, status)

def Square.lengthClock (ch : Square) : Square :=
  let r := Machine.lengthClock ch.lengthEnabled ch.length ch.status
  { ch with length := r.1, status := r.2 }

def Wave.lengthClock (ch : Wave) : Wave :=
  let r := Machine.lengthClock ch.lengthEnabled ch.length ch.status
  { ch with length := r.1, status := r.2 }

def Noise.lengthClock (ch : Noise) : Noise :=
  let r := Machine.lengthClock ch.lengthEnabled ch.length ch.status
  { ch with length := r.1, status := r.2 }

/-- The volume step of R584 when the timer has run out. -/
def Envelope.move (e : Envelope) : Envelope :=
  if e.up then
    if e.volume.toNat < 15 then { e with volume := e.volume + 1 } else { e with automatic := false }
  else
    if 0 < e.volume.toNat then { e with volume := e.volume - 1 } else { e with automatic := false }

/-- `EnvelopeClock` (R584). -/
def Envelope.clock (e : Envelope) : Envelope :=
  if e.period ≠ 0 ∧ e.automatic then
    if e.timer - 1 = 0 then { e with timer := e.period.toNat }.move else { e with timer := e.timer - 1 }
  else e

/-- The new frequency of `SweepCalc()` (R585), before the check against 2047. -/
def Sweep.newFrequency (w : Sweep) : Nat :=
  let f := w.frequency.toNat
  if w.subtract then f - f / 2 ^ w.shift.toNat else f + f / 2 ^ w.shift.toNat

/-- The effect of `SweepCalc()` (R585): a subtraction is remembered, an overflow disables ch1. -/
def Apu.sweepCalc (p : Apu) : Apu :=
  { p with
    sweep.calculatedSubtract := p.sweep.calculatedSubtract || p.sweep.subtract
    ch1.status := if 2047 < p.sweep.newFrequency then false else p.ch1.status }

/-- The sweep timer's reload value: the period, or 8 for period 0 (R585, R612). -/
def Sweep.reload (w : Sweep) : Int := if w.period ≠ 0 then w.period.toNat else 8

/-- The calculation of R585 when the timer has run out and the period is not 0. -/
def Apu.sweepUpdate (p : Apu) : Apu :=
  let nf := p.sweep.newFrequency
  let p := p.sweepCalc
  if nf ≤ 2047 ∧ p.sweep.shift ≠ 0 then
    { p with sweep.frequency := BitVec.ofNat 11 nf, ch1.freq := BitVec.ofNat 11 nf }.sweepCalc
  else p

/-- `SweepClock()` (R585). -/
def Apu.sweepClock (p : Apu) : Apu :=
  if p.ch1.status ∧ p.sweep.enabled then
    if p.sweep.timer - 1 = 0 then
      let p := { p with sweep.timer := p.sweep.reload }
      if p.sweep.period ≠ 0 then p.sweepUpdate else p
    else { p with sweep.timer := p.sweep.timer - 1 }
  else p

/-- The length clocks of all four channels (R581). -/
def Apu.lengthClocks (p : Apu) : Apu :=
  { p with ch1 := p.ch1.lengthClock, ch2 := p.ch2.lengthClock, ch3 := p.ch3.lengthClock, ch4 := p.ch4.lengthClock }

/-- The envelope clocks of ch1, ch2 and ch4 (R581). -/
def Apu.envelopeClocks (p : Apu) : Apu :=
  { p with ch1.env := p.ch1.env.clock, ch2.env := p.ch2.env.clock, ch4.env := p.ch4.env.clock }

/-- `FrameSequencerStep(s)` for the step just reached (R581): length before sweep (D29). -/
def Apu.frameSequencerStep (p : Apu) : Apu :=
  match p.fsStep with
  | 0 => p.lengthClocks
  | 1 => p
  | 2 => p.lengthClocks.sweepClock
  | 3 => p
  | 4 => p.lengthClocks
  | 5 => p
  | 6 => p.lengthClocks.sweepClock
  | 7 => p.envelopeClocks

/-! ### Channel clocks (R590 to R592) -/

/-- The duty tables, indexed by code and phase (R590). -/
def dutyTable (duty : BitVec 2) (phase : BitVec 3) : Bool :=
  let row : List Bool :=
    match duty with
    | 0 => [false, false, false, false, false, false, false, true]
    | 1 => [true, false, false, false, false, false, false, true]
    | 2 => [true, false, false, false, false, true, true, true]
    | 3 => [false, true, true, true, true, true, true, false]
  row.getD phase.toNat false

/-- `ChannelClock` of a square channel (R590). -/
def Square.clock (ch : Square) : Square :=
  if ch.counter - 2 = 0 then
    let phase := ch.dutyPhase + 1
    { ch with counter := ch.period, dutyPhase := phase, dutyBit := dutyTable ch.duty phase }
  else { ch with counter := ch.counter - 2 }

/-- The high nibble for an even position, the low one for an odd position (R67, R591). -/
def waveNibble (byte : Byte) (position : BitVec 5) : BitVec 4 :=
  if position.getLsbD 0 then byte.extractLsb' 0 4 else byte.extractLsb' 4 4

/-- Record a clocked sample in the slot that is next (R591). -/
def Wave.record (entry : WaveLogEntry) (ch : Wave) : Wave :=
  if ch.logNext then { ch with log1 := entry, logNext := false } else { ch with log0 := entry, logNext := true }

/-- `ChannelClock` of the wave channel at absolute cycle t (R591). -/
def Wave.clock (t : Nat) (ch : Wave) : Wave :=
  if ch.counter - 2 = 0 then
    let position := ch.position + 1
    let byte := ch.ram.read (position.toNat / 2)
    let data := waveNibble byte position
    { ch with counter := ch.period, position := position, sampleData := data }.record ⟨some t, position, byte, data⟩
  else { ch with counter := ch.counter - 2 }

/-- The next LFSR state (R592). -/
def lfsrNext (width7 : Bool) (lfsr : BitVec 15) : BitVec 15 :=
  let bit := BitVec.ofBool (lfsr.getLsbD 0 ^^ lfsr.getLsbD 1)
  let shifted : BitVec 15 := bit ++ lfsr.extractLsb' 1 14
  if width7 then shifted.extractLsb' 7 8 ++ bit ++ shifted.extractLsb' 0 6 else shifted

/-- `ChannelClock` of the noise channel (R592). -/
def Noise.clock (ch : Noise) : Noise :=
  if ch.counter - 2 = 0 then
    let lfsr := lfsrNext ch.width7 ch.lfsr
    { ch with counter := ch.period, lfsr := lfsr, sampleBit := !lfsr.getLsbD 0 }
  else { ch with counter := ch.counter - 2 }

/-- The channel clocks of one tick, in order, each only while its status is 1 (R580). -/
def Apu.channelClocks (t : Nat) (p : Apu) : Apu :=
  { p with
    ch1 := if p.ch1.status then p.ch1.clock else p.ch1
    ch2 := if p.ch2.status then p.ch2.clock else p.ch2
    ch3 := if p.ch3.status then p.ch3.clock t else p.ch3
    ch4 := if p.ch4.status then p.ch4.clock else p.ch4 }

/-- The frame sequencer's part of a tick (R580). -/
def Apu.sequencerTick (p : Apu) : Apu :=
  if p.fsCounter + 2 = 8192 then { p with fsCounter := 0, fsStep := p.fsStep + 1 }.frameSequencerStep
  else { p with fsCounter := p.fsCounter + 2 }

/-- One APU tick ending at absolute cycle t, without the mixer (R580). -/
def Apu.tick (t : Nat) (p : Apu) : Apu := if p.powered then p.sequencerTick.channelClocks t else p

/-! ### The mixer (R595) -/

/-- `SquareSample` (R590). -/
def Square.sample (ch : Square) : Nat := if ch.dutyBit then ch.env.volume.toNat * 4096 else 0

/-- The right shift of a volume code (R591). -/
def waveShift (code : BitVec 2) : Nat :=
  match code with
  | 0 => 4
  | 1 => 0
  | 2 => 1
  | 3 => 2

/-- `WaveSample` (R591). -/
def Wave.sample (ch : Wave) : Nat := (ch.sampleData.toNat / 2 ^ waveShift ch.volumeCode) * 4096

/-- `NoiseSample` (R592). -/
def Noise.sample (ch : Noise) : Nat := if ch.sampleBit then ch.env.volume.toNat * 4096 else 0

/-- One side's sum: the channels with status 1 that NR51 routes there, `shift` being 4 for SO2 and 0 for SO1 (R65, R595). -/
def Apu.sideSum (p : Apu) (shift : Nat) : Nat :=
  (if p.ch1.status ∧ p.nr51.getLsbD shift then p.ch1.sample else 0)
    + (if p.ch2.status ∧ p.nr51.getLsbD (shift + 1) then p.ch2.sample else 0)
    + (if p.ch3.status ∧ p.nr51.getLsbD (shift + 2) then p.ch3.sample else 0)
    + (if p.ch4.status ∧ p.nr51.getLsbD (shift + 3) then p.ch4.sample else 0)

/-- One side's output: `floor(floor(sum · (volume + 1) / 8) / 4)` (R595). -/
def sideOut (sum : Nat) (volume : BitVec 3) : Nat := sum * (volume.toNat + 1) / 8 / 4

/-- `Mix()` (R595): SO2 is left, SO1 is right (D36). -/
def Apu.mix (p : Apu) : Sample :=
  { left := BitVec.ofNat 16 (sideOut (p.sideSum 4) (p.nr50.extractLsb' 4 3))
    right := BitVec.ofNat 16 (sideOut (p.sideSum 0) (p.nr50.extractLsb' 0 3)) }

/-- `ApuUpdate`: `ticks` ticks, the last one before them having ended at cycle t; each appends one pair (R580, R694). -/
def apuTicks (ticks t : Nat) (s : State) : State :=
  match ticks with
  | 0 => s
  | k + 1 =>
    let apu := s.apu.tick (t + 2)
    apuTicks k (t + 2) { s with apu := apu, samples := apu.mix :: s.samples }

/-- `ApuUpdate(n)`: `n / 2` ticks (R580). -/
def apuUpdate (n : Nat) (s : State) : State := apuTicks (n / 2) s.cycles s

/-! ### Registers -/

/-- The APU registers of R45 that hold sound settings, in address order; NR52 stands apart (R600). -/
inductive ApuReg where
  | nr10 | nr11 | nr12 | nr13 | nr14
  | nr21 | nr22 | nr23 | nr24
  | nr30 | nr31 | nr32 | nr33 | nr34
  | nr41 | nr42 | nr43 | nr44
  | nr50 | nr51
  deriving DecidableEq, Repr

/-- The registers from 0xFF10 to 0xFF25 in increasing address order (R620). -/
def ApuReg.all : List ApuReg :=
  [.nr10, .nr11, .nr12, .nr13, .nr14, .nr21, .nr22, .nr23, .nr24,
   .nr30, .nr31, .nr32, .nr33, .nr34, .nr41, .nr42, .nr43, .nr44, .nr50, .nr51]

/-- The DAC bits of NRx2, the top five (R56, R605). -/
def dacBits (v : Byte) : Bool := v.extractLsb' 3 5 != 0

/-- The envelope fields of an NRx2 write; volume, timer and automatic stay (R605). -/
def Envelope.write (v : Byte) (e : Envelope) : Envelope :=
  { e with initialVolume := v.extractLsb' 4 4, up := v.getLsbD 3, period := v.extractLsb' 0 3 }

/-- The envelope at a trigger (R611). -/
def Envelope.trigger (nextIsEnvelope : Bool) (e : Envelope) : Envelope :=
  { e with
    volume := e.initialVolume
    timer := if nextIsEnvelope then e.period.toNat + 1 else e.period.toNat
    automatic := true }

/-- The extra length clock of an NRx4 write (R610): the new length and status. -/
def extraLengthClock (nextIsLength wasEnabled : Bool) (v : Byte) (length : Nat) (status : Bool) : Nat × Bool :=
  if !wasEnabled ∧ v.getLsbD 6 ∧ !nextIsLength ∧ 0 < length then
    (length - 1, if length - 1 = 0 ∧ !v.getLsbD 7 then false else status)
  else (length, status)

/-- The length at a trigger (R611): MAX for 0, one less when length is enabled and the next step clocks no length. -/
def triggerLength (max : Nat) (nextIsLength enabled : Bool) (length : Nat) : Nat :=
  if length = 0 then (if enabled ∧ !nextIsLength then max - 1 else max) else length

/-- `freq[7:0] <- v` (R608). -/
def freqLow (v : Byte) (freq : BitVec 11) : BitVec 11 := freq.extractLsb' 8 3 ++ v

/-- `freq[10:8] <- v[2:0]` (R610). -/
def freqHigh (v : Byte) (freq : BitVec 11) : BitVec 11 := v.extractLsb' 0 3 ++ freq.extractLsb' 0 8

/-- NR11, NR21 (R603). -/
def Square.writeLength (v : Byte) (ch : Square) : Square :=
  { ch with duty := v.extractLsb' 6 2, length := 64 - (v.extractLsb' 0 6).toNat }

/-- NR12, NR22 (R605). -/
def Square.writeEnvelope (v : Byte) (ch : Square) : Square :=
  { ch with env := ch.env.write v, dacEnabled := dacBits v, status := ch.status && dacBits v }

/-- The fields of NR14 and NR24 with the extra length clock, without the trigger (R610). -/
def Square.writeControl (nextIsLength : Bool) (v : Byte) (ch : Square) : Square :=
  let r := extraLengthClock nextIsLength ch.lengthEnabled v ch.length ch.status
  { ch with freq := freqHigh v ch.freq, lengthEnabled := v.getLsbD 6, length := r.1, status := r.2 }

/-- The common trigger of a square channel (R611). -/
def Square.trigger (nextIsLength nextIsEnvelope : Bool) (ch : Square) : Square :=
  { ch with
    length := triggerLength 64 nextIsLength ch.lengthEnabled ch.length
    status := ch.status || ch.dacEnabled
    env := ch.env.trigger nextIsEnvelope
    counter := ch.period }

/-- `SweepTrigger()` (R612). -/
def Apu.sweepTrigger (p : Apu) : Apu :=
  let p :=
    { p with
      sweep.frequency := p.ch1.freq
      sweep.timer := p.sweep.reload
      sweep.enabled := decide (p.sweep.period ≠ 0 ∨ p.sweep.shift ≠ 0)
      sweep.calculatedSubtract := false }
  if p.sweep.shift ≠ 0 then p.sweepCalc else p

/-- NR10 (R602). -/
def Apu.writeNr10 (v : Byte) (p : Apu) : Apu :=
  let oldSubtract := p.sweep.subtract
  let p := { p with sweep.period := v.extractLsb' 4 3, sweep.subtract := v.getLsbD 3, sweep.shift := v.extractLsb' 0 3 }
  if p.sweep.calculatedSubtract && oldSubtract && !p.sweep.subtract then { p with ch1.status := false } else p

/-- NR14 (R610, R611, R612). -/
def Apu.writeNr14 (v : Byte) (p : Apu) : Apu :=
  let p := { p with ch1 := p.ch1.writeControl p.nextIsLength v }
  if v.getLsbD 7 then { p with ch1 := p.ch1.trigger p.nextIsLength p.nextIsEnvelope }.sweepTrigger else p

/-- NR24 (R610, R611). -/
def Apu.writeNr24 (v : Byte) (p : Apu) : Apu :=
  let p := { p with ch2 := p.ch2.writeControl p.nextIsLength v }
  if v.getLsbD 7 then { p with ch2 := p.ch2.trigger p.nextIsLength p.nextIsEnvelope } else p

/-- NR30 (R606). -/
def Wave.writeDac (v : Byte) (ch : Wave) : Wave :=
  { ch with dacEnabled := v.getLsbD 7, status := ch.status && v.getLsbD 7 }

/-- NR31 (R604). -/
def Wave.writeLength (v : Byte) (ch : Wave) : Wave := { ch with length := 256 - v.toNat }

/-- The fields of NR34 with the extra length clock, without the trigger (R610). -/
def Wave.writeControl (nextIsLength : Bool) (v : Byte) (ch : Wave) : Wave :=
  let r := extraLengthClock nextIsLength ch.lengthEnabled v ch.length ch.status
  { ch with freq := freqHigh v ch.freq, lengthEnabled := v.getLsbD 6, length := r.1, status := r.2 }

/-- The log slot clocked at a cycle, if any (R613, R640). -/
def Wave.clockedAt (cycle : Nat) (ch : Wave) : Option WaveLogEntry :=
  if ch.log0.time = some cycle then some ch.log0
  else if ch.log1.time = some cycle then some ch.log1
  else none

/-- The log slot clocked two cycles before a cycle, if any: `s.time + 2 == cycles` (R613). -/
def Wave.clockedTwoBefore (cycle : Nat) (ch : Wave) : Option WaveLogEntry :=
  if 2 ≤ cycle then ch.clockedAt (cycle - 2) else none

/-- Copy four bytes of wave RAM from a base to index 0 (R613). -/
def copyWaveBlock (base : Nat) (ram : Memory) : Memory :=
  (((ram.write 0 (ram.read base)).write 1 (ram.read (base + 1))).write 2 (ram.read (base + 2))).write 3 (ram.read (base + 3))

/-- `WaveTriggerCorruption` with the old status, at the cycle the instruction started (R613). -/
def Wave.corrupt (cycle : Nat) (ch : Wave) : Wave :=
  if ch.status then
    match ch.clockedTwoBefore cycle with
    | none => ch
    | some entry =>
      let block := entry.position.toNat / 2
      if block = 0 then { ch with ram := ch.ram.write 0 entry.byte }
      else { ch with ram := copyWaveBlock (block / 4 * 4) ch.ram }
  else ch

/-- The trigger of ch3 (R611, R613). -/
def Wave.trigger (nextIsLength : Bool) (cycle : Nat) (ch : Wave) : Wave :=
  let ch := ch.corrupt cycle
  { ch with
    length := triggerLength 256 nextIsLength ch.lengthEnabled ch.length
    status := ch.status || ch.dacEnabled
    counter := ch.period
    position := 0 }

/-- NR34 (R610, R611, R613). -/
def Apu.writeNr34 (v : Byte) (cycle : Nat) (p : Apu) : Apu :=
  let p := { p with ch3 := p.ch3.writeControl p.nextIsLength v }
  if v.getLsbD 7 then { p with ch3 := p.ch3.trigger p.nextIsLength cycle } else p

/-- NR41 (R604). -/
def Noise.writeLength (v : Byte) (ch : Noise) : Noise := { ch with length := 64 - (v.extractLsb' 0 6).toNat }

/-- NR42 (R605). -/
def Noise.writeEnvelope (v : Byte) (ch : Noise) : Noise :=
  { ch with env := ch.env.write v, dacEnabled := dacBits v, status := ch.status && dacBits v }

/-- NR43 (R609). -/
def Noise.writePolynomial (v : Byte) (ch : Noise) : Noise :=
  { ch with clockShift := v.extractLsb' 4 4, width7 := v.getLsbD 3, divisorCode := v.extractLsb' 0 3 }

/-- The fields of NR44 with the extra length clock, without the trigger (R610). -/
def Noise.writeControl (nextIsLength : Bool) (v : Byte) (ch : Noise) : Noise :=
  let r := extraLengthClock nextIsLength ch.lengthEnabled v ch.length ch.status
  { ch with lengthEnabled := v.getLsbD 6, length := r.1, status := r.2 }

/-- The trigger of ch4 (R611, R614). -/
def Noise.trigger (nextIsLength nextIsEnvelope : Bool) (ch : Noise) : Noise :=
  { ch with
    length := triggerLength 64 nextIsLength ch.lengthEnabled ch.length
    status := ch.status || ch.dacEnabled
    env := ch.env.trigger nextIsEnvelope
    counter := ch.period
    lfsr := 0x7FFF }

/-- NR44 (R610, R611, R614). -/
def Apu.writeNr44 (v : Byte) (p : Apu) : Apu :=
  let p := { p with ch4 := p.ch4.writeControl p.nextIsLength v }
  if v.getLsbD 7 then { p with ch4 := p.ch4.trigger p.nextIsLength p.nextIsEnvelope } else p

/-- A register write while powered on (R602 to R615). -/
def Apu.writeOn (r : ApuReg) (v : Byte) (cycle : Nat) (p : Apu) : Apu :=
  match r with
  | .nr10 => p.writeNr10 v
  | .nr11 => { p with ch1 := p.ch1.writeLength v }
  | .nr12 => { p with ch1 := p.ch1.writeEnvelope v }
  | .nr13 => { p with ch1.freq := freqLow v p.ch1.freq }
  | .nr14 => p.writeNr14 v
  | .nr21 => { p with ch2 := p.ch2.writeLength v }
  | .nr22 => { p with ch2 := p.ch2.writeEnvelope v }
  | .nr23 => { p with ch2.freq := freqLow v p.ch2.freq }
  | .nr24 => p.writeNr24 v
  | .nr30 => { p with ch3 := p.ch3.writeDac v }
  | .nr31 => { p with ch3 := p.ch3.writeLength v }
  | .nr32 => { p with ch3.volumeCode := v.extractLsb' 5 2 }
  | .nr33 => { p with ch3.freq := freqLow v p.ch3.freq }
  | .nr34 => p.writeNr34 v cycle
  | .nr41 => { p with ch4 := p.ch4.writeLength v }
  | .nr42 => { p with ch4 := p.ch4.writeEnvelope v }
  | .nr43 => { p with ch4 := p.ch4.writePolynomial v }
  | .nr44 => p.writeNr44 v
  | .nr50 => { p with nr50 := v }
  | .nr51 => { p with nr51 := v }

/-- A register write while powered off: only the length part of NRx1 is taken (R600). -/
def Apu.writeOff (r : ApuReg) (v : Byte) (p : Apu) : Apu :=
  match r with
  | .nr11 => { p with ch1.length := 64 - (v.extractLsb' 0 6).toNat }
  | .nr21 => { p with ch2.length := 64 - (v.extractLsb' 0 6).toNat }
  | .nr31 => { p with ch3.length := 256 - v.toNat }
  | .nr41 => { p with ch4.length := 64 - (v.extractLsb' 0 6).toNat }
  | .nr10 | .nr12 | .nr13 | .nr14 | .nr22 | .nr23 | .nr24 | .nr30 | .nr32 | .nr33 | .nr34
  | .nr42 | .nr43 | .nr44 | .nr50 | .nr51 => p

/-- `ApuWrite` for every mapped register but NR52 (R600). -/
def Apu.write (r : ApuReg) (v : Byte) (cycle : Nat) (p : Apu) : Apu :=
  if p.powered then p.writeOn r v cycle else p.writeOff r v

/-- The zero writes of a power-off, in increasing address order, while still powered (R620). -/
def Apu.zeroAll (cycle : Nat) (p : Apu) : Apu :=
  ApuReg.all.foldl (fun q r => q.writeOn r 0x00 cycle) p

/-- `Nr52Write(v)` (R620). -/
def Apu.writeNr52 (v : Byte) (cycle : Nat) (p : Apu) : Apu :=
  if p.powered && !v.getLsbD 7 then { p.zeroAll cycle with powered := false }
  else if !p.powered && v.getLsbD 7 then { p with powered := true, fsStep := 7, fsCounter := 0 }
  else p

/-- The stored bits of NRx2 (R56). -/
def Envelope.readReg (e : Envelope) : Byte := e.initialVolume ++ BitVec.ofBool e.up ++ e.period

/-- NRx4 reads `0xBF | length_enabled<<6` (R58). -/
def readControl (lengthEnabled : Bool) : Byte := 0b1#1 ++ BitVec.ofBool lengthEnabled ++ 0b111111#6

/-- `ApuRead` for every mapped register but NR52: stored fields OR mask (R54 to R65, R601). -/
def Apu.read (r : ApuReg) (p : Apu) : Byte :=
  match r with
  | .nr10 => 0b1#1 ++ p.sweep.period ++ BitVec.ofBool p.sweep.subtract ++ p.sweep.shift
  | .nr11 => p.ch1.duty ++ 0b111111#6
  | .nr12 => p.ch1.env.readReg
  | .nr13 => 0xFF
  | .nr14 => readControl p.ch1.lengthEnabled
  | .nr21 => p.ch2.duty ++ 0b111111#6
  | .nr22 => p.ch2.env.readReg
  | .nr23 => 0xFF
  | .nr24 => readControl p.ch2.lengthEnabled
  | .nr30 => BitVec.ofBool p.ch3.dacEnabled ++ 0b1111111#7
  | .nr31 => 0xFF
  | .nr32 => 0b1#1 ++ p.ch3.volumeCode ++ 0b11111#5
  | .nr33 => 0xFF
  | .nr34 => readControl p.ch3.lengthEnabled
  | .nr41 => 0xFF
  | .nr42 => p.ch4.env.readReg
  | .nr43 => p.ch4.clockShift ++ BitVec.ofBool p.ch4.width7 ++ p.ch4.divisorCode
  | .nr44 => readControl p.ch4.lengthEnabled
  | .nr50 => p.nr50
  | .nr51 => p.nr51

/-- NR52 read (R66). -/
def Apu.readNr52 (p : Apu) : Byte :=
  BitVec.ofBool p.powered ++ 0b111#3 ++ BitVec.ofBool p.ch4.status ++ BitVec.ofBool p.ch3.status
    ++ BitVec.ofBool p.ch2.status ++ BitVec.ofBool p.ch1.status

/-! ### Wave RAM access (R640) -/

/-- `WaveRead(addr)` at an index of wave RAM, at the cycle the instruction started. -/
def Wave.readRam (cycle index : Nat) (ch : Wave) : Byte :=
  if ch.status then
    match ch.clockedAt cycle with
    | some entry => entry.byte
    | none => 0xFF
  else ch.ram.read index

/-- `WaveWrite(addr, v)`: while playing, a coinciding write goes to the byte being played (R640). -/
def Wave.writeRam (cycle index : Nat) (v : Byte) (ch : Wave) : Wave :=
  if ch.status then
    match ch.clockedAt cycle with
    | some _ => { ch with ram := ch.ram.write (ch.position.toNat / 2) v }
    | none => ch
  else { ch with ram := ch.ram.write index v }

end Sys2Proof.Machine
end

