-- ==== Sys2Proof/Machine/Irq.lean ====
section
/-! DEFINITION. Requesting an interrupt, and the read and write of IF (R17, R44, R433). -/

namespace Sys2Proof.Machine

/-- The IF bit of each source (R432). -/
def vblankBit : Nat := 0
def statBit : Nat := 1
def timerBit : Nat := 2
def serialBit : Nat := 3
def joypadBit : Nat := 4

/-- `RequestInterrupt(bit)`: `IF[bit] <- 1` (R17). -/
def requestInterrupt (k : Nat) (s : State) : State :=
  { s with iflag := s.iflag ||| (1#5 <<< k) }

/-- A read of IF returns `IF[4:0] | 0xE0` (R44). -/
def readIf (s : State) : Byte := 0b111#3 ++ s.iflag

/-- A write of IF stores `v & 0x1F` (R44). -/
def writeIf (v : Byte) (s : State) : State := { s with iflag := v.extractLsb' 0 5 }

/-- `IE & IF & 0x1F`: the sources that are both pending and enabled (R433). -/
def pendingEnabled (s : State) : BitVec 5 := s.ie.extractLsb' 0 5 &&& s.iflag

end Sys2Proof.Machine
end

