-- ==== Sys2Proof/Machine/Joypad.lean ====
section
/-! DEFINITION. The joypad (65_joypad_serial.md R670 to R674) and the serial stub (R675). -/

namespace Sys2Proof.Machine

/-- `Row(Buttons)`: A, B, Select, Start in bits 0 to 3 (R671). -/
def Keys.buttonRow (k : Keys) : BitVec 4 :=
  BitVec.ofBool k.start ++ BitVec.ofBool k.select ++ BitVec.ofBool k.b ++ BitVec.ofBool k.a

/-- `Row(DPad)`: Right, Left, Up, Down in bits 0 to 3 (R671). -/
def Keys.dpadRow (k : Keys) : BitVec 4 :=
  BitVec.ofBool k.down ++ BitVec.ofBool k.up ++ BitVec.ofBool k.left ++ BitVec.ofBool k.right

/-- `Pressed()` under a row select (R671): 1 = pressed. -/
def pressedRow (select : BitVec 2) (k : Keys) : BitVec 4 :=
  match select with
  | 0b00 => k.buttonRow ||| k.dpadRow
  | 0b01 => k.buttonRow
  | 0b10 => k.dpadRow
  | 0b11 => 0

/-- The four low lines of JOYP, low = pressed (R671, R672). -/
def Joypad.lines (j : Joypad) : BitVec 4 := ~~~(pressedRow j.select j.keys)

/-- JOYP read: `0xC0 | select<<4 | lines` (R671). -/
def Joypad.read (j : Joypad) : Byte := 0b11#2 ++ j.select ++ j.lines

/-- JOYP write: `select <- v[5:4]`, no interrupt (R670). -/
def Joypad.write (v : Byte) (j : Joypad) : Joypad := { j with select := v.extractLsb' 4 2 }

/-- Some key goes from released to pressed (R673). -/
def Keys.newlyPressed (old new : Keys) : Bool :=
  (!old.right && new.right) || (!old.left && new.left) || (!old.up && new.up) || (!old.down && new.down)
    || (!old.a && new.a) || (!old.b && new.b) || (!old.select && new.select) || (!old.start && new.start)

/-- The host changes the key state: the joypad interrupt when a selected line falls (R672) and the STOP wake (R673),
each judged on the old and the new keys. -/
def setKeys (keys : Keys) (s : State) : State :=
  let before := s.joypad.lines
  let joypad := { s.joypad with keys := keys }
  let s' := { s with joypad := joypad }
  let s' := if before &&& ~~~joypad.lines ≠ 0 then requestInterrupt joypadBit s' else s'
  if s.joypad.keys.newlyPressed keys then { s' with cpu.stopped := false } else s'

/-- SC reads `0x7E | stored` (R675). -/
def Serial.readSc (x : Serial) : Byte := BitVec.ofBool x.scBit7 ++ 0b111111#6 ++ BitVec.ofBool x.scBit0

/-- SC stores bits 7 and 0; no transfer ever happens (R675). -/
def Serial.writeSc (v : Byte) (x : Serial) : Serial :=
  { x with scBit7 := v.getLsbD 7, scBit0 := v.getLsbD 0 }

end Sys2Proof.Machine
end

