-- ==== Sys2Proof/Machine/Cartridge.lean ====
section
/-! DEFINITION. The cartridge header, the configuration checks and the creation of an instance (R94, R150 to R154, R698, R699). -/

namespace Sys2Proof.Machine

/-- What one cartridge-type code means (R151). -/
structure CartType where
  kind : MapperKind
  hasRam : Bool
  hasBattery : Bool
  deriving DecidableEq, Repr

/-- The cartridge-type table, code 0x147 of the header (R151). MBC2's RAM is internal, so its `hasRam` is not asked. -/
def cartTypeTable : List (Nat × CartType) :=
  [(0x00, ⟨.mbc0, false, false⟩), (0x01, ⟨.mbc1, false, false⟩), (0x02, ⟨.mbc1, true, false⟩), (0x03, ⟨.mbc1, true, true⟩),
   (0x05, ⟨.mbc2, true, false⟩), (0x06, ⟨.mbc2, true, true⟩), (0x08, ⟨.mbc0, true, false⟩), (0x09, ⟨.mbc0, true, true⟩),
   (0x0F, ⟨.mbc3, false, true⟩), (0x10, ⟨.mbc3, true, true⟩), (0x11, ⟨.mbc3, false, false⟩), (0x12, ⟨.mbc3, true, false⟩),
   (0x13, ⟨.mbc3, true, true⟩)]

/-- The ROM-size code 0x148: `32 KiB << c` for c in 0..8 (R152). -/
def romSizeOfCode (code : Nat) : Option Nat := if code ≤ 8 then some (32768 * 2 ^ code) else none

/-- The RAM-size table, code 0x149 (R153). -/
def ramSizeTable : List (Nat × Nat) :=
  [(0, 0), (1, 2048), (2, 8192), (3, 32768), (4, 131072), (5, 65536)]

/-- Why an image creates no machine (R154, D50). -/
inductive ConfigError where
  /-- The image is shorter than 32 KiB. -/
  | romTooSmall (size : Nat)
  /-- The image's length is no multiple of 16 KiB. -/
  | sizeNotMultiple (size : Nat)
  /-- The type code is in no row of R151. -/
  | unsupportedMapper (code : Byte)
  /-- The ROM-size code is above 8. -/
  | unknownRomSize (code : Byte)
  /-- The declared ROM size is not the image's length. -/
  | sizeMismatch (declared actual : Nat)
  /-- The RAM-size code of a type with RAM is in no row of R153. -/
  | unknownRamSize (code : Byte)
  deriving DecidableEq, Repr

/-- The external RAM size of a type with a RAM-size code (R153): MBC2 has its 512 cells whatever the code. -/
def extRamSizeOf (type : CartType) (code : Byte) : Except ConfigError Nat :=
  if type.kind = .mbc2 then .ok 512
  else if type.hasRam then
    match ramSizeTable.lookup code.toNat with
    | some size => .ok size
    | none => .error (.unknownRamSize code)
  else .ok 0

/-- Read the header of an image and make the checks of R151 to R154. Which error is reported when several hold is the
model's order (DESIGN CHOICE, log 12), safe. -/
def Cartridge.ofImage (image : List Byte) : Except ConfigError Cartridge :=
  let size := image.length
  let typeCode := image.getD 0x147 0
  let romCode := image.getD 0x148 0
  let ramCode := image.getD 0x149 0
  if size < 32768 then .error (.romTooSmall size)
  else if size % 16384 ≠ 0 then .error (.sizeNotMultiple size)
  else
    match cartTypeTable.lookup typeCode.toNat with
    | none => .error (.unsupportedMapper typeCode)
    | some type =>
      match romSizeOfCode romCode.toNat with
      | none => .error (.unknownRomSize romCode)
      | some declared =>
        if declared ≠ size then .error (.sizeMismatch declared size)
        else
          match extRamSizeOf type ramCode with
          | .error e => .error e
          | .ok ramSize =>
            .ok { rom := Memory.ofBytes image, romSize := size, kind := type.kind, extRamSize := ramSize
                  hasBattery := type.hasBattery }

/-- External RAM at creation: a save of exactly the RAM's size on a cartridge with a battery, else `INIT_MEM` (R699).
A save of another length is taken as missing (DESIGN CHOICE, log 13), safe. -/
def InitMem.withSave (cart : Cartridge) (save : Option (List Byte)) (init : InitMem) : InitMem :=
  match save with
  | none => init
  | some bytes =>
    if cart.hasBattery ∧ bytes.length = cart.extRamSize then { init with eram := Memory.ofBytes bytes } else init

/-- Create an instance from an image, `INIT_MEM` and an optional save (R698): refused on a configuration error (R154). -/
def create (image : List Byte) (init : InitMem) (save : Option (List Byte)) : Except ConfigError State :=
  match Cartridge.ofImage image with
  | .error e => .error e
  | .ok cart => .ok (State.resetWith cart (init.withSave cart save))

/-- `rom_banks = rom_size / 16384` (R10). -/
def Cartridge.romBanks (cart : Cartridge) : Nat := cart.romSize / 16384

end Sys2Proof.Machine
end

