-- ==== Sys2Proof/Machine/MapperRegs.lean ====
section
/-! DEFINITION. The mapper registers (R134 to R143) and external RAM (R132, R133, R141). -/

namespace Sys2Proof.Machine

/-- The RAM-enable test `(v & 0x0F) == 0x0A` (R135, R140, R142). -/
def ramEnableValue (v : Byte) : Bool := v.extractLsb' 0 4 == 0xA

/-- MBC1's low 5 bits with 0 bumped to 1 (R139). -/
def mbc1Low5 (byte2000 : BitVec 5) : BitVec 5 := if byte2000 = 0 then 1 else byte2000

/-- MBC1's recompute after any of its writes (R139). -/
def Mapper.mbc1Recompute (m : Mapper) : Mapper :=
  match m.bankMode with
  | .rom => { m with romBank := m.byte4000 ++ mbc1Low5 m.byte2000, extRamBank := 0 }
  | .ram => { m with romBank := (mbc1Low5 m.byte2000).setWidth 7, extRamBank := m.byte4000.setWidth 3 }

/-- MBC1 write (R135 to R138). -/
def Mapper.mbc1Write (addr : Word16) (v : Byte) (m : Mapper) : Mapper :=
  if addr.toNat < 0x2000 then { m with extRamEnabled := ramEnableValue v }.mbc1Recompute
  else if addr.toNat < 0x4000 then { m with byte2000 := v.extractLsb' 0 5 }.mbc1Recompute
  else if addr.toNat < 0x6000 then { m with byte4000 := v.extractLsb' 0 2 }.mbc1Recompute
  else { m with bankMode := if v.getLsbD 0 then .ram else .rom }.mbc1Recompute

/-- MBC2 write: address bit 8 selects the function (R140). -/
def Mapper.mbc2Write (addr : Word16) (v : Byte) (m : Mapper) : Mapper :=
  if addr.toNat < 0x2000 ∧ addr.getLsbD 8 = false then { m with extRamEnabled := ramEnableValue v }
  else if 0x2000 ≤ addr.toNat ∧ addr.toNat < 0x4000 ∧ addr.getLsbD 8 = true then
    { m with romBank := (v.extractLsb' 0 4).setWidth 7 }
  else m

/-- MBC3 write; 0x6000-0x7FFF, the RTC latch, is ignored (R142). -/
def Mapper.mbc3Write (addr : Word16) (v : Byte) (m : Mapper) : Mapper :=
  if addr.toNat < 0x2000 then { m with extRamEnabled := ramEnableValue v }
  else if addr.toNat < 0x4000 then
    let bank := v.extractLsb' 0 7
    { m with romBank := if bank = 0 then 1 else bank }
  else if addr.toNat < 0x6000 then { m with extRamBank := v.extractLsb' 0 3 }
  else m

/-- `MapperWrite(addr, v)` for 0x0000-0x7FFF (R103, R134). -/
def Mapper.write (kind : MapperKind) (addr : Word16) (v : Byte) (m : Mapper) : Mapper :=
  match kind with
  | .mbc0 => m
  | .mbc1 => m.mbc1Write addr v
  | .mbc2 => m.mbc2Write addr v
  | .mbc3 => m.mbc3Write addr v

/-- The image index of 0x4000-0x7FFF: bank `rom_bank mod rom_banks` (R102, R143). -/
def romIndex (addr : Word16) (s : State) : Nat :=
  (s.mapper.romBank.toNat % s.cart.romBanks) * 0x4000 + (addr.toNat - 0x4000)

/-- The index of 0xA000-0xBFFF: 9 address bits for MBC2 (R141), else `(ram_bank << 13) | (addr & 0x1FFF)` (R132). -/
def eramIndex (addr : Word16) (s : State) : Nat :=
  match s.cart.kind with
  | .mbc2 => addr.toNat % 512
  | _ => s.mapper.extRamBank.toNat * 0x2000 + addr.toNat % 0x2000

/-- `EramRead(addr)` (R132). -/
def eramRead (addr : Word16) (s : State) : Byte :=
  if !s.mapper.extRamEnabled then 0xFF
  else if s.cart.kind = .mbc2 then s.eram.read (eramIndex addr s) &&& 0x0F
  else if s.cart.extRamSize ≤ eramIndex addr s then 0x00
  else s.eram.read (eramIndex addr s)

/-- `EramWrite(addr, v)` (R133). -/
def eramWrite (addr : Word16) (v : Byte) (s : State) : State :=
  if !s.mapper.extRamEnabled then s
  else if s.cart.kind = .mbc2 then { s with eram := s.eram.write (eramIndex addr s) (v &&& 0x0F) }
  else if s.cart.extRamSize ≤ eramIndex addr s then s
  else { s with eram := s.eram.write (eramIndex addr s) v }

end Sys2Proof.Machine
end

