-- ==== Sys2Proof/Machine/Ppu.lean ====
section
/-! DEFINITION. The PPU: mode machine, STAT and LY logic, display switch, scanline renderer (63_ppu.md, R520 to R545). -/

namespace Sys2Proof.Machine

/-- LCDC's fields (R68). -/
def Ppu.displayOn (p : Ppu) : Bool := p.lcdc.getLsbD 7
def Ppu.windowMapHigh (p : Ppu) : Bool := p.lcdc.getLsbD 6
def Ppu.windowOn (p : Ppu) : Bool := p.lcdc.getLsbD 5
def Ppu.tileDataUnsigned (p : Ppu) : Bool := p.lcdc.getLsbD 4
def Ppu.bgMapHigh (p : Ppu) : Bool := p.lcdc.getLsbD 3
def Ppu.objTall (p : Ppu) : Bool := p.lcdc.getLsbD 2
def Ppu.objOn (p : Ppu) : Bool := p.lcdc.getLsbD 1
def Ppu.bgOn (p : Ppu) : Bool := p.lcdc.getLsbD 0

/-- STAT's interrupt enables, bits 3 to 6 (R69). -/
def Ppu.hblankIrqOn (p : Ppu) : Bool := p.statEnables.getLsbD 0
def Ppu.vblankIrqOn (p : Ppu) : Bool := p.statEnables.getLsbD 1
def Ppu.oamIrqOn (p : Ppu) : Bool := p.statEnables.getLsbD 2
def Ppu.lycIrqOn (p : Ppu) : Bool := p.statEnables.getLsbD 3

/-- The mode numbers of STAT[1:0] (R69). -/
def PpuMode.code (m : PpuMode) : BitVec 2 :=
  match m with
  | .hBlank => 0
  | .vBlank => 1
  | .oamScan => 2
  | .transfer => 3

/-- STAT read: `0x80 | STAT[6:3] | coincidence<<2 | mode` (R523). -/
def Ppu.readStat (p : Ppu) : Byte :=
  0b1#1 ++ p.statEnables ++ BitVec.ofBool p.coincidence ++ p.mode.code

/-- LY read: 0 while the display is off (R71, R523). -/
def Ppu.readLy (p : Ppu) : Byte := if p.displayOn then p.ly else 0

/-! ### The renderer -/

/-- `Shade(P, i)`: the colour of shade `(P >> 2i) & 3` (R545). -/
def shade (palette : Byte) (index : BitVec 2) : Rgba :=
  Config.shadeColour (palette.extractLsb' (2 * index.toNat) 2)

/-- The offset in VRAM of a tile map (R541): 0x9800 or 0x9C00. -/
def mapOffset (high : Bool) : Nat := if high then 0x1C00 else 0x1800

/-- The offset in VRAM of a background or window tile's data (R541): unsigned from 0x8000 or signed from 0x9000. -/
def Ppu.tileOffset (p : Ppu) (t : Byte) : Nat :=
  if p.tileDataUnsigned then 16 * t.toNat else (0x1000 + 16 * t.toInt).toNat

/-- `TilePixel`: the colour index at a row and column of the tile at an offset in VRAM (R541). -/
def tilePixel (vram : Memory) (tile row col : Nat) : BitVec 2 :=
  let lo := vram.read (tile + 2 * row)
  let hi := vram.read (tile + 2 * row + 1)
  BitVec.ofBool (hi.getLsbD (7 - col)) ++ BitVec.ofBool (lo.getLsbD (7 - col))

/-- The colour index of a map's pixel, its row and column counted from the map's top left corner (R540). -/
def Ppu.mapPixel (p : Ppu) (vram : Memory) (high : Bool) (yy xx : Nat) : BitVec 2 :=
  let t := vram.read (mapOffset high + (yy / 8) * 32 + xx / 8)
  tilePixel vram (p.tileOffset t) (yy % 8) (xx % 8)

/-- One background or window pixel of a line: `bg_index[x]` and the colour. -/
structure BgPixel where
  index : BitVec 2
  colour : Rgba
  deriving DecidableEq, Repr

/-- Whether the window covers screen column x of line y (R540 step 3). -/
def Ppu.windowCovers (p : Ppu) (y x : Nat) : Bool :=
  p.windowOn && decide (p.wx.toNat ≤ 166) && decide (p.cachedWy.toNat ≤ y) && decide (p.wx.toNat ≤ x + 7)

/-- Steps 1 to 3 of R540 for one pixel: white, the background, the window over it. -/
def Ppu.bgPixel (p : Ppu) (vram : Memory) (y x : Nat) : BgPixel :=
  if p.windowCovers y x then
    let index := p.mapPixel vram p.windowMapHigh p.windowLine.toNat (x + 7 - p.wx.toNat)
    ⟨index, shade p.bgp index⟩
  else if p.bgOn then
    let index := p.mapPixel vram p.bgMapHigh ((y + p.scy.toNat) % 256) ((x + p.scx.toNat) % 256)
    ⟨index, shade p.bgp index⟩
  else ⟨0, Config.white⟩

/-- The background and window pixels of line y. -/
def Ppu.bgRow (p : Ppu) (vram : Memory) (y : Nat) : List BgPixel := (List.range 160).map (p.bgPixel vram y)

/-- `win_drawn` of R540: some pixel of the line belongs to the window. -/
def Ppu.windowDrawn (p : Ppu) (y : Nat) : Bool := (List.range 160).any (p.windowCovers y)

/-- The bytes of OAM entry i (R78). -/
def objY (oam : Memory) (i : Nat) : Byte := oam.read (4 * i)
def objX (oam : Memory) (i : Nat) : Byte := oam.read (4 * i + 1)
def objTile (oam : Memory) (i : Nat) : Byte := oam.read (4 * i + 2)
def objAttr (oam : Memory) (i : Nat) : Byte := oam.read (4 * i + 3)

/-- The height of every object: 8 or 16 lines (R542). -/
def Ppu.objHeight (p : Ppu) : Nat := if p.objTall then 16 else 8

/-- Object i covers line y: `top <= y < top + h` with `top = Y - 16` (R542). -/
def objCovers (oam : Memory) (h y i : Nat) : Bool :=
  decide ((objY oam i).toNat ≤ y + 16) && decide (y + 16 < (objY oam i).toNat + h)

/-- Insert i after the last selected object whose X is not greater (R542). The list is always ascending in X. -/
def insertByX (oam : Memory) (i : Nat) (sel : List Nat) : List Nat :=
  match sel with
  | [] => [i]
  | j :: rest =>
    if (objX oam j).toNat ≤ (objX oam i).toNat then j :: insertByX oam i rest else i :: j :: rest

/-- The selection of R542: the first ten objects in OAM order that cover the line, sorted by X. -/
def selectObjects (oam : Memory) (h y : Nat) : List Nat :=
  (((List.range 40).filter (objCovers oam h y)).take 10).foldl (fun sel i => insertByX oam i sel) []

/-- The row of the object's picture that lies on line y, Y flip applied over the full height (R543). -/
def objRow (oam : Memory) (h y i : Nat) : Nat :=
  let row := y + 16 - (objY oam i).toNat
  if (objAttr oam i).getLsbD 6 then h - 1 - row else row

/-- The tile of an object for a picture row: top and bottom of 8x16 objects (R543). -/
def objTileAt (oam : Memory) (h row i : Nat) : Byte :=
  if h = 16 then
    if row < 8 then objTile oam i &&& 0xFE else objTile oam i ||| 0x01
  else objTile oam i

/-- Draw column c of object i on a line (R543): nothing off screen, where transparent, or behind a non-zero background. -/
def Ppu.drawColumn (p : Ppu) (vram oam : Memory) (bg : List BgPixel) (y i : Nat) (row : List Rgba) (c : Nat) : List Rgba :=
  let h := p.objHeight
  let attr := objAttr oam i
  let x := (objX oam i).toNat + c
  let picRow := objRow oam h y i
  let tile := objTileAt oam h picRow i
  let index := tilePixel vram (16 * tile.toNat) (picRow % 8) (if attr.getLsbD 5 then 7 - c else c)
  if x < 8 ∨ 168 ≤ x then row
  else if index = 0 then row
  else if attr.getLsbD 7 ∧ (bg.getD (x - 8) ⟨0, Config.white⟩).index ≠ 0 then row
  else row.set (x - 8) (shade (if attr.getLsbD 4 then p.obp1 else p.obp0) index)

/-- `DrawSprite` (R543): the eight columns from left to right. -/
def Ppu.drawObject (p : Ppu) (vram oam : Memory) (bg : List BgPixel) (y : Nat) (row : List Rgba) (i : Nat) : List Rgba :=
  (List.range 8).foldl (p.drawColumn vram oam bg y i) row

/-- The framebuffer row of line y (R540): background and window, then the objects from last to first. -/
def Ppu.renderedRow (p : Ppu) (vram oam : Memory) (y : Nat) : List Rgba :=
  let bg := p.bgRow vram y
  let row := bg.map (·.colour)
  if p.objOn then (selectObjects oam p.objHeight y).reverse.foldl (p.drawObject vram oam bg y) row else row

/-- `RenderLine(y)` (R540). It reads VRAM and OAM directly, never gated (R544). -/
def renderLine (y : Nat) (s : State) : State :=
  { s with
    framebuffer := s.framebuffer.set y (s.ppu.renderedRow s.vram s.oam y)
    ppu.windowLine := if s.ppu.windowDrawn y then s.ppu.windowLine + 1 else s.ppu.windowLine }

/-! ### The mode machine -/

/-- `CheckLYC()` (R530). -/
def checkLyc (s : State) : State :=
  let hit := s.ppu.ly == s.ppu.lyc
  let s' := { s with ppu.coincidence := hit }
  if hit && s.ppu.lycIrqOn then requestInterrupt statBit s' else s'

/-- Raise the LCD STAT interrupt if an enable bit is set (R534). -/
def statIf (enabled : Bool) (s : State) : State := if enabled then requestInterrupt statBit s else s

/-- The OAMScan to Transfer transition: render the line (R521). -/
def enterTransfer (s : State) : State := renderLine s.ppu.ly.toNat { s with ppu.mode := .transfer }

/-- The Transfer to HBlank transition (R521). -/
def enterHBlank (s : State) : State := statIf s.ppu.hblankIrqOn { s with ppu.mode := .hBlank }

/-- The end of a visible line: LY first, then the compare, then the mode entry (R521, D23). -/
def endVisibleLine (s : State) : State :=
  let s := checkLyc { s with ppu.lineCycle := 0, ppu.ly := s.ppu.ly + 1 }
  if s.ppu.ly = 144 then
    statIf s.ppu.vblankIrqOn (requestInterrupt vblankBit { s with ppu.mode := .vBlank })
  else
    statIf s.ppu.oamIrqOn { s with ppu.mode := .oamScan }

/-- The end of a VBlank line (R521): at line 153 the frame wraps. -/
def endVBlankLine (s : State) : State :=
  if s.ppu.ly = 153 then
    checkLyc (statIf s.ppu.oamIrqOn
      { s with
        ppu.lineCycle := 0
        ppu.ly := 0
        ppu.cachedWy := s.ppu.wy
        ppu.windowLine := 0
        ppu.newFrameEdge := true
        ppu.frameCounter := s.ppu.frameCounter + 1
        ppu.mode := .oamScan })
  else checkLyc { s with ppu.lineCycle := 0, ppu.ly := s.ppu.ly + 1 }

/-- `PpuCycle()` with the display on (R521). -/
def lcdOnCycle (s : State) : State :=
  let s := { s with ppu.lineCycle := s.ppu.lineCycle + 1 }
  match s.ppu.mode with
  | .oamScan => if s.ppu.lineCycle = 80 then enterTransfer s else s
  | .transfer => if s.ppu.lineCycle = 252 then enterHBlank s else s
  | .hBlank => if s.ppu.lineCycle = 456 then endVisibleLine s else s
  | .vBlank => if s.ppu.lineCycle = 456 then endVBlankLine s else s

/-- The end of a line while the display is off (R535). -/
def endOffLine (s : State) : State :=
  let next := (s.ppu.fakeLy + 1) % 154
  let framebuffer :=
    if s.ppu.fakeLy < 144 then s.framebuffer.set s.ppu.fakeLy (List.replicate 160 Config.white) else s.framebuffer
  let s := { s with framebuffer := framebuffer, ppu.lineCycle := 0, ppu.fakeLy := next }
  if next = 0 then
    { s with ppu.newFrameEdge := true, ppu.frameCounter := s.ppu.frameCounter + 1 }
  else s

/-- `LcdOffCycle()` (R535). -/
def lcdOffCycle (s : State) : State :=
  let s := { s with ppu.lineCycle := s.ppu.lineCycle + 1 }
  if s.ppu.lineCycle = 456 then endOffLine s else s

/-- `PpuCycle()` (R521). -/
def ppuCycle (s : State) : State := if s.ppu.displayOn then lcdOnCycle s else lcdOffCycle s

/-- `PpuUpdate(n)`: n cycles (R521). -/
def ppuUpdate (n : Nat) (s : State) : State := ppuCycle^[n] s

/-! ### Register writes -/

/-- `LcdcWrite(v)`: the display switch (R535). -/
def writeLcdc (v : Byte) (s : State) : State :=
  let wasOn := s.ppu.displayOn
  let isOn := v.getLsbD 7
  let s := { s with ppu.lcdc := v }
  if wasOn && !isOn then
    { s with ppu.mode := .vBlank, ppu.ly := 0, ppu.lineCycle := 0, ppu.fakeLy := 0 }
  else if !wasOn && isOn then
    checkLyc
      { s with
        ppu.mode := .oamScan
        ppu.ly := 0
        ppu.lineCycle := 0
        ppu.cachedWy := s.ppu.wy
        ppu.windowLine := 0 }
  else s

/-- STAT write: bits 6:3 are stored, no interrupt (R532). -/
def Ppu.writeStat (v : Byte) (p : Ppu) : Ppu := { p with statEnables := v.extractLsb' 3 4 }

/-- LYC write: the compare is evaluated again, no interrupt (R531). -/
def Ppu.writeLyc (v : Byte) (p : Ppu) : Ppu := { p with lyc := v, coincidence := p.ly == v }

end Sys2Proof.Machine
end

