-- ==== Sys2Proof/Machine/Timer.lean ====
section
/-! DEFINITION. The timer: DIV, TIMA, TMA, TAC (61_timer.md, R480 to R488). -/

namespace Sys2Proof.Machine

/-- `tap_mask(clock_select)`: bits 9, 3, 5, 7 of `div_counter` (R483). -/
def tapMask (clockSelect : BitVec 2) : Word16 :=
  match clockSelect with
  | 0 => 0x0200
  | 1 => 0x0008
  | 2 => 0x0020
  | 3 => 0x0080

/-- `TimaIncrement()` (R482). -/
def Timer.increment (t : Timer) : Timer :=
  let tima := t.tima + 1
  { t with tima := tima, timaOverflow := if tima = 0 then true else t.timaOverflow }

/-- The delayed reload of R481 is due: the timer is on and an overflow is pending. -/
def Timer.reloadDue (t : Timer) : Bool := t.on && t.timaOverflow

/-- Step 1 of R481: the delayed reload. -/
def Timer.reload (t : Timer) : Timer :=
  if t.reloadDue then { t with tima := t.tma, timaOverflow := false } else t

/-- Step 2 of R481: the divider and its falling-edge detector. -/
def Timer.divide (t : Timer) : Timer :=
  let old := t.divCounter
  let new := t.divCounter + 4
  let t' := { t with divCounter := new }
  if (old ^^^ new) &&& ~~~new &&& tapMask t.clockSelect ≠ 0 ∧ t.on then t'.increment else t'

/-- `TimerStep()` (R481): the reload raises the Timer interrupt. -/
def timerStep (s : State) : State :=
  let s' := if s.timer.reloadDue then requestInterrupt timerBit s else s
  { s' with timer := s.timer.reload.divide }

/-- `update_timer(n)`: `n / 4` timer steps (R480). -/
def timerUpdate (n : Nat) (s : State) : State := timerStep^[n / 4] s

/-- DIV write: reset, with the same falling-edge detection (R484). The value written is ignored. -/
def Timer.writeDiv (t : Timer) : Timer :=
  let t' := { t with divCounter := 0 }
  if t.divCounter &&& tapMask t.clockSelect ≠ 0 ∧ t.on then t'.increment else t'

/-- The observed tap bit of R485: `on` and the selected bit of `div_counter`. -/
def Timer.observedTap (t : Timer) : Bool :=
  t.on && decide (t.divCounter &&& tapMask t.clockSelect ≠ 0)

/-- TAC write, with the glitched increment (R485). -/
def Timer.writeTac (v : Byte) (t : Timer) : Timer :=
  let t' := { t with on := v.getLsbD 2, clockSelect := v.extractLsb' 0 2 }
  if t.observedTap && !t'.observedTap then t'.increment else t'

/-- TIMA write: stores and cancels a pending overflow (R486). -/
def Timer.writeTima (v : Byte) (t : Timer) : Timer := { t with tima := v, timaOverflow := false }

/-- DIV reads `div_counter[15:8]` (R50, R488). -/
def Timer.readDiv (t : Timer) : Byte := t.divCounter.extractLsb' 8 8

/-- TAC reads `0xF8 | on<<2 | clock_select` (R488). -/
def Timer.readTac (t : Timer) : Byte := 0b11111#5 ++ BitVec.ofBool t.on ++ t.clockSelect

end Sys2Proof.Machine
end

