-- ==== Sys2Proof/Machine/Bus.lean ====
section
/-! DEFINITION. The memory bus: region map, DMA and PPU gating, the IO register map, `BusRead` and `BusWrite` (20_memory.md R100 to R108,
10_state.md R43 to R75). -/

namespace Sys2Proof.Machine

/-- The regions of the address space (R101). -/
inductive Region where
  | rom0 | romN | vram | eram | wram0 | wramN | echo | oam | unused | io | apu | wave | hram
  deriving DecidableEq, Repr

/-- `Region(addr)` (R101). -/
def region (addr : Word16) : Region :=
  let a := addr.toNat
  if a < 0x4000 then .rom0
  else if a < 0x8000 then .romN
  else if a < 0xA000 then .vram
  else if a < 0xC000 then .eram
  else if a < 0xD000 then .wram0
  else if a < 0xE000 then .wramN
  else if a < 0xFE00 then .echo
  else if a < 0xFEA0 then .oam
  else if a < 0xFF00 then .unused
  else if a < 0xFF10 then .io
  else if a < 0xFF30 then .apu
  else if a < 0xFF40 then .wave
  else if a < 0xFF80 then .io
  else if a < 0xFFFF then .hram
  else .io

/-- The memory-mapped registers of R45, wave RAM apart. -/
inductive IoReg where
  | joyp | sb | sc | div | tima | tma | tac | iflag
  | sound (r : ApuReg)
  | nr52
  | lcdc | stat | scy | scx | ly | lyc | dma | bgp | obp0 | obp1 | wy | wx
  | ie
  deriving DecidableEq, Repr

/-- The rows of R45 from 0xFF00 to 0xFF0F. -/
def ioMapLow : List (Nat × IoReg) :=
  [(0xFF00, .joyp), (0xFF01, .sb), (0xFF02, .sc), (0xFF04, .div), (0xFF05, .tima), (0xFF06, .tma), (0xFF07, .tac),
   (0xFF0F, .iflag)]

/-- The rows of R45 from 0xFF10 to 0xFF26. -/
def ioMapApu : List (Nat × IoReg) :=
  [(0xFF10, .sound .nr10), (0xFF11, .sound .nr11), (0xFF12, .sound .nr12), (0xFF13, .sound .nr13), (0xFF14, .sound .nr14),
   (0xFF16, .sound .nr21), (0xFF17, .sound .nr22), (0xFF18, .sound .nr23), (0xFF19, .sound .nr24),
   (0xFF1A, .sound .nr30), (0xFF1B, .sound .nr31), (0xFF1C, .sound .nr32), (0xFF1D, .sound .nr33), (0xFF1E, .sound .nr34),
   (0xFF20, .sound .nr41), (0xFF21, .sound .nr42), (0xFF22, .sound .nr43), (0xFF23, .sound .nr44),
   (0xFF24, .sound .nr50), (0xFF25, .sound .nr51), (0xFF26, .nr52)]

/-- The rows of R45 from 0xFF40 up. -/
def ioMapHigh : List (Nat × IoReg) :=
  [(0xFF40, .lcdc), (0xFF41, .stat), (0xFF42, .scy), (0xFF43, .scx), (0xFF44, .ly), (0xFF45, .lyc), (0xFF46, .dma),
   (0xFF47, .bgp), (0xFF48, .obp0), (0xFF49, .obp1), (0xFF4A, .wy), (0xFF4B, .wx), (0xFFFF, .ie)]

/-- The IO register map (R45); an address in no row is unmapped. -/
def ioMap : List (Nat × IoReg) := ioMapLow ++ ioMapApu ++ ioMapHigh

/-- The register at an address, if one is mapped there (R45). -/
def ioReg (addr : Word16) : Option IoReg := ioMap.lookup addr.toNat

/-- The byte a register reads as: its stored bits with its unused bits at 1 (R46, R47). -/
def readIo (r : IoReg) (s : State) : Byte :=
  match r with
  | .joyp => s.joypad.read
  | .sb => s.serial.sb
  | .sc => s.serial.readSc
  | .div => s.timer.readDiv
  | .tima => s.timer.tima
  | .tma => s.timer.tma
  | .tac => s.timer.readTac
  | .iflag => readIf s
  | .sound q => s.apu.read q
  | .nr52 => s.apu.readNr52
  | .lcdc => s.ppu.lcdc
  | .stat => s.ppu.readStat
  | .scy => s.ppu.scy
  | .scx => s.ppu.scx
  | .ly => s.ppu.readLy
  | .lyc => s.ppu.lyc
  | .dma => s.dma.reg
  | .bgp => s.ppu.bgp
  | .obp0 => s.ppu.obp0
  | .obp1 => s.ppu.obp1
  | .wy => s.ppu.wy
  | .wx => s.ppu.wx
  | .ie => s.ie

/-- `DmaWrite(V)`: start a transfer from V<<8 (R501). -/
def Dma.start (v : Byte) : Dma :=
  { reg := v, active := true, source := v ++ 0#8, offset := 0, cycles := 0 }

/-- The effect of a register write, each as its device file says. LY is read-only (R71). -/
def writeIo (r : IoReg) (v : Byte) (s : State) : State :=
  match r with
  | .joyp => { s with joypad := s.joypad.write v }
  | .sb => { s with serial.sb := v }
  | .sc => { s with serial := s.serial.writeSc v }
  | .div => { s with timer := s.timer.writeDiv }
  | .tima => { s with timer := s.timer.writeTima v }
  | .tma => { s with timer.tma := v }
  | .tac => { s with timer := s.timer.writeTac v }
  | .iflag => writeIf v s
  | .sound q => { s with apu := s.apu.write q v s.cycles }
  | .nr52 => { s with apu := s.apu.writeNr52 v s.cycles }
  | .lcdc => writeLcdc v s
  | .stat => { s with ppu := s.ppu.writeStat v }
  | .scy => { s with ppu.scy := v }
  | .scx => { s with ppu.scx := v }
  | .ly => s
  | .lyc => { s with ppu := s.ppu.writeLyc v }
  | .dma => { s with dma := Dma.start v }
  | .bgp => { s with ppu.bgp := v }
  | .obp0 => { s with ppu.obp0 := v }
  | .obp1 => { s with ppu.obp1 := v }
  | .wy => { s with ppu.wy := v }
  | .wx => { s with ppu.wx := v }
  | .ie => { s with ie := v }

/-- `DeviceRead(addr)`: an unmapped IO address reads 0xFF (R45). -/
def deviceRead (addr : Word16) (s : State) : Byte :=
  match ioReg addr with
  | some r => readIo r s
  | none => 0xFF

/-- `DeviceWrite(addr, v)`: a write of an unmapped IO address is dropped (R45). -/
def deviceWrite (addr : Word16) (v : Byte) (s : State) : State :=
  match ioReg addr with
  | some r => writeIo r v s
  | none => s

/-- `DmaAllows(region)` (R104). -/
def dmaAllows (r : Region) (s : State) : Bool :=
  !s.dma.active || r == .hram || (region s.dma.source == .vram && r != .vram && r != .oam)

/-- The PPU holds VRAM: mode Transfer (R105). -/
def Ppu.locksVram (p : Ppu) : Bool := p.mode == .transfer

/-- The PPU holds OAM: modes OAMScan and Transfer (R106). -/
def Ppu.locksOam (p : Ppu) : Bool := p.mode == .oamScan || p.mode == .transfer

/-- The `case region` of `BusRead` (R102). -/
def regionRead (addr : Word16) (s : State) : Byte :=
  match region addr with
  | .rom0 => s.cart.rom.read addr.toNat
  | .romN => s.cart.rom.read (romIndex addr s)
  | .vram => if s.ppu.locksVram then 0xFF else s.vram.read (addr.toNat - 0x8000)
  | .eram => eramRead addr s
  | .wram0 | .wramN => s.wram.read (addr.toNat - 0xC000)
  | .echo => s.wram.read (addr.toNat - 0xE000)
  | .oam => if s.ppu.locksOam then 0xFF else s.oam.read (addr.toNat - 0xFE00)
  | .unused => 0x00
  | .io | .apu => deviceRead addr s
  | .wave => s.apu.ch3.readRam s.cycles (addr.toNat - 0xFF30)
  | .hram => s.hram.read (addr.toNat - 0xFF80)

/-- `BusRead(addr)` (R102). -/
def busRead (addr : Word16) (s : State) : Byte :=
  if dmaAllows (region addr) s then regionRead addr s else 0xFF

/-- The `case region` of `BusWrite` (R103). -/
def regionWrite (addr : Word16) (v : Byte) (s : State) : State :=
  match region addr with
  | .rom0 | .romN => { s with mapper := s.mapper.write s.cart.kind addr v }
  | .vram => if s.ppu.locksVram then s else { s with vram := s.vram.write (addr.toNat - 0x8000) v }
  | .eram => eramWrite addr v s
  | .wram0 | .wramN => { s with wram := s.wram.write (addr.toNat - 0xC000) v }
  | .echo => { s with wram := s.wram.write (addr.toNat - 0xE000) v }
  | .oam => if s.ppu.locksOam then s else { s with oam := s.oam.write (addr.toNat - 0xFE00) v }
  | .unused => s
  | .io | .apu => deviceWrite addr v s
  | .wave => { s with apu.ch3 := s.apu.ch3.writeRam s.cycles (addr.toNat - 0xFF30) v }
  | .hram => { s with hram := s.hram.write (addr.toNat - 0xFF80) v }

/-- `BusWrite(addr, v)` (R103): a write that DMA gates is dropped. -/
def busWrite (addr : Word16) (v : Byte) (s : State) : State :=
  if dmaAllows (region addr) s then regionWrite addr v s else s

end Sys2Proof.Machine
end

