-- ==== Sys2Proof/Machine/Flags.lean ====
section
/-! DEFINITION. The flags of F (10_state.md R32, R33), the conditions (R370), and every ALU, rotate and shift result with its flags
(41_alu8.md, 42_alu16.md, 43_rotate_shift_bit.md). -/

namespace Sys2Proof.Machine

/-- Z, N, H and C are bits 7, 6, 5 and 4 of F (R33). -/
def Cpu.zf (c : Cpu) : Bool := c.f.getLsbD 7
def Cpu.nf (c : Cpu) : Bool := c.f.getLsbD 6
def Cpu.hf (c : Cpu) : Bool := c.f.getLsbD 5
def Cpu.cf (c : Cpu) : Bool := c.f.getLsbD 4

/-- F with the given flags; its low four bits are 0 (R32, R33). -/
def mkFlags (z n h c : Bool) : Byte :=
  BitVec.ofBool z ++ BitVec.ofBool n ++ BitVec.ofBool h ++ BitVec.ofBool c ++ 0#4

/-- Every write of F stores `v & 0xF0` (R32). -/
def flagByte (v : Byte) : Byte := v &&& 0xF0

/-- `Cond(cc)` (R370). -/
def Cpu.cond (cc : Cond) (c : Cpu) : Bool :=
  match cc with
  | .nz => !c.zf
  | .z => c.zf
  | .nc => !c.cf
  | .c => c.cf

/-- An 8-bit result with the flag byte that goes with it. -/
structure Alu where
  value : Byte
  flags : Byte
  deriving DecidableEq, Repr

/-- ADD and ADC with carry in `c` (R251, R252). -/
def aluAdd (a s : Byte) (c : Bool) : Alu :=
  let r := a.toNat + s.toNat + c.toNat
  let value := BitVec.ofNat 8 r
  ⟨value, mkFlags (value == 0) false (decide (0xF < a.toNat % 16 + s.toNat % 16 + c.toNat)) (decide (0xFF < r))⟩

/-- SUB, CP and SBC with borrow in `c` (R253, R254, R258). -/
def aluSub (a s : Byte) (c : Bool) : Alu :=
  let r : Int := (a.toNat : Int) - s.toNat - c.toNat
  let value := BitVec.ofInt 8 r
  let half : Int := ((a.toNat % 16 : Nat) : Int) - (s.toNat % 16 : Nat) - c.toNat
  ⟨value, mkFlags (value == 0) true (decide (half < 0)) (decide (r < 0))⟩

/-- AND (R255). -/
def aluAnd (a s : Byte) : Alu := ⟨a &&& s, mkFlags (a &&& s == 0) false true false⟩

/-- XOR (R256). -/
def aluXor (a s : Byte) : Alu := ⟨a ^^^ s, mkFlags (a ^^^ s == 0) false false false⟩

/-- OR (R257). -/
def aluOr (a s : Byte) : Alu := ⟨a ||| s, mkFlags (a ||| s == 0) false false false⟩

/-- INC of a byte; C stays (R259, R260). -/
def aluInc (v : Byte) (cf : Bool) : Alu := ⟨v + 1, mkFlags (v + 1 == 0) false (v &&& 0xF == 0xF) cf⟩

/-- DEC of a byte; C stays (R261, R262). -/
def aluDec (v : Byte) (cf : Bool) : Alu := ⟨v - 1, mkFlags (v - 1 == 0) true (v &&& 0xF == 0x0) cf⟩

/-- DAA after an addition (R263, N = 0): the high adjustment, then the low one on its result. -/
def daaAdd (a : Byte) (h c : Bool) : Alu :=
  let high : Bool := c || decide (0x99 < a.toNat)
  let a := if high then a + 0x60 else a
  let a := if h || decide (0x09 < a.toNat % 16) then a + 0x06 else a
  ⟨a, mkFlags (a == 0) false false high⟩

/-- DAA after a subtraction (R263, N = 1). -/
def daaSub (a : Byte) (h c : Bool) : Alu :=
  let a := if c then a - 0x60 else a
  let a := if h then a - 0x06 else a
  ⟨a, mkFlags (a == 0) true false c⟩

/-- DAA (R263). -/
def aluDaa (a : Byte) (n h c : Bool) : Alu := if n then daaSub a h c else daaAdd a h c

/-- The flags of the CB rotates and shifts: Z from the result, N and H clear, C the bit shifted out (R325 to R332). -/
def shiftFlags (res : Byte) (c : Bool) : Byte := mkFlags (res == 0) false false c

/-- RLC (R325). -/
def aluRlc (v : Byte) : Alu :=
  let res := v.extractLsb' 0 7 ++ BitVec.ofBool (v.getLsbD 7)
  ⟨res, shiftFlags res (v.getLsbD 7)⟩

/-- RRC (R326). -/
def aluRrc (v : Byte) : Alu :=
  let res := BitVec.ofBool (v.getLsbD 0) ++ v.extractLsb' 1 7
  ⟨res, shiftFlags res (v.getLsbD 0)⟩

/-- RL through the carry (R327). -/
def aluRl (v : Byte) (cf : Bool) : Alu :=
  let res := v.extractLsb' 0 7 ++ BitVec.ofBool cf
  ⟨res, shiftFlags res (v.getLsbD 7)⟩

/-- RR through the carry (R328). -/
def aluRr (v : Byte) (cf : Bool) : Alu :=
  let res := BitVec.ofBool cf ++ v.extractLsb' 1 7
  ⟨res, shiftFlags res (v.getLsbD 0)⟩

/-- SLA (R329). -/
def aluSla (v : Byte) : Alu :=
  let res := v <<< 1
  ⟨res, shiftFlags res (v.getLsbD 7)⟩

/-- SRA keeps bit 7 (R330). -/
def aluSra (v : Byte) : Alu :=
  let res := (v >>> 1) ||| (v &&& 0x80)
  ⟨res, shiftFlags res (v.getLsbD 0)⟩

/-- SWAP (R331). -/
def aluSwap (v : Byte) : Alu :=
  let res := v.extractLsb' 0 4 ++ v.extractLsb' 4 4
  ⟨res, shiftFlags res false⟩

/-- SRL (R332). -/
def aluSrl (v : Byte) : Alu :=
  let res := v >>> 1
  ⟨res, shiftFlags res (v.getLsbD 0)⟩

/-- A rotate of the accumulator: the same with Z always 0 (R320 to R323). -/
def Alu.clearZ (r : Alu) : Alu := { r with flags := r.flags &&& 0x7F }

/-- BIT b: Z from the bit, H set, C stays (R333). -/
def bitFlags (v : Byte) (b : Nat) (cf : Bool) : Byte := mkFlags (!v.getLsbD b) false true cf

/-- RES b (R334). -/
def resBit (v : Byte) (b : Nat) : Byte := v &&& ~~~(1#8 <<< b)

/-- SET b (R335). -/
def setBit (v : Byte) (b : Nat) : Byte := v ||| (1#8 <<< b)

/-- ADD HL,rr: the flag byte, Z staying (R302). -/
def addHlFlags (hl rr : Word16) (zf : Bool) : Byte :=
  mkFlags zf false (decide (0x0FFF < hl.toNat % 4096 + rr.toNat % 4096)) (decide (0xFFFF < hl.toNat + rr.toNat))

/-- ADD SP,e and LD HL,SP+e: the flags come from the unsigned byte (R303, R304). -/
def addSpFlags (sp : Word16) (e : Byte) : Byte :=
  mkFlags false false (decide (0xF < sp.toNat % 16 + e.toNat % 16)) (decide (0xFF < sp.toNat % 256 + e.toNat))

end Sys2Proof.Machine
end

