-- ==== Sys2Proof/Machine/Operands.lean ====
section
/-! DEFINITION. The operand forms: 8-bit registers, pairs, `(HL)`, the memory operands' addresses and sign extension
(10_state.md R30, R31; 30_encoding.md R172, R173, R176, R177). -/

namespace Sys2Proof.Machine

/-- The pairs AF, BC, DE and HL: the first-named register is the high half (R31). -/
def Cpu.af (c : Cpu) : Word16 := c.a ++ c.f
def Cpu.bc (c : Cpu) : Word16 := c.b ++ c.c
def Cpu.de (c : Cpu) : Word16 := c.d ++ c.e
def Cpu.hl (c : Cpu) : Word16 := c.h ++ c.l

/-- A write of a pair writes both halves (R31). -/
def Cpu.setBc (w : Word16) (c : Cpu) : Cpu := { c with b := highByte w, c := lowByte w }
def Cpu.setDe (w : Word16) (c : Cpu) : Cpu := { c with d := highByte w, e := lowByte w }
def Cpu.setHl (w : Word16) (c : Cpu) : Cpu := { c with h := highByte w, l := lowByte w }

/-- A write of AF stores F with its low four bits 0 (R32). -/
def Cpu.setAf (w : Word16) (c : Cpu) : Cpu := { c with a := highByte w, f := flagByte (lowByte w) }

/-- An 8-bit register (R172). -/
def Cpu.reg (r : Reg8) (c : Cpu) : Byte :=
  match r with
  | .b => c.b
  | .c => c.c
  | .d => c.d
  | .e => c.e
  | .h => c.h
  | .l => c.l
  | .a => c.a

/-- Write an 8-bit register (R172). -/
def Cpu.setReg (r : Reg8) (v : Byte) (c : Cpu) : Cpu :=
  match r with
  | .b => { c with b := v }
  | .c => { c with c := v }
  | .d => { c with d := v }
  | .e => { c with e := v }
  | .h => { c with h := v }
  | .l => { c with l := v }
  | .a => { c with a := v }

/-- A 16-bit register of LD rr,nn, INC rr, DEC rr and ADD HL,rr (R173). -/
def Cpu.pair (r : Reg16) (c : Cpu) : Word16 :=
  match r with
  | .bc => c.bc
  | .de => c.de
  | .hl => c.hl
  | .sp => c.sp

/-- Write a 16-bit register (R173). -/
def Cpu.setPair (r : Reg16) (w : Word16) (c : Cpu) : Cpu :=
  match r with
  | .bc => c.setBc w
  | .de => c.setDe w
  | .hl => c.setHl w
  | .sp => { c with sp := w }

/-- A pair of PUSH and POP (R173). -/
def Cpu.stackPair (r : StackReg) (c : Cpu) : Word16 :=
  match r with
  | .bc => c.bc
  | .de => c.de
  | .hl => c.hl
  | .af => c.af

/-- Write a pair of POP (R173, R235). -/
def Cpu.setStackPair (r : StackReg) (w : Word16) (c : Cpu) : Cpu :=
  match r with
  | .bc => c.setBc w
  | .de => c.setDe w
  | .hl => c.setHl w
  | .af => c.setAf w

/-- The state with another CPU record. -/
def State.mapCpu (g : Cpu → Cpu) (s : State) : State := { s with cpu := g s.cpu }

/-- `Op8Read(c)`: a register, or the byte at HL (R172, R177). -/
def readOp8 (o : Op8) (s : State) : Byte :=
  match o with
  | .b => s.cpu.b
  | .c => s.cpu.c
  | .d => s.cpu.d
  | .e => s.cpu.e
  | .h => s.cpu.h
  | .l => s.cpu.l
  | .mHL => busRead s.cpu.hl s
  | .a => s.cpu.a

/-- `Op8Write(c, v)`: a register, or the byte at HL (R172, R177). -/
def writeOp8 (o : Op8) (v : Byte) (s : State) : State :=
  match o with
  | .b => s.mapCpu (Cpu.setReg .b v)
  | .c => s.mapCpu (Cpu.setReg .c v)
  | .d => s.mapCpu (Cpu.setReg .d v)
  | .e => s.mapCpu (Cpu.setReg .e v)
  | .h => s.mapCpu (Cpu.setReg .h v)
  | .l => s.mapCpu (Cpu.setReg .l v)
  | .mHL => busWrite s.cpu.hl v s
  | .a => s.mapCpu (Cpu.setReg .a v)

/-- `0xFF00 | n` of LDH and of LD (C) (R176). -/
def ioAddress (n : Byte) : Word16 := 0xFF#8 ++ n

/-- `sext_16(e)` (R176). -/
def sext16 (e : Byte) : Word16 := e.signExtend 16

/-- A write of F's flags (R32). -/
def setFlags (f : Byte) (s : State) : State := s.mapCpu (fun c => { c with f := f })

end Sys2Proof.Machine
end

