-- ==== Sys2Proof/Machine/Cost.lean ====
section
/-! DEFINITION. The cycle cost of an instruction (30_encoding.md R178, R179, R181, R182; 66_scheduler_host.md R691). -/

namespace Sys2Proof.Machine

/-- The `cycles` column of R178, row by row: the cost of an unprefixed opcode whose condition, if any, is false. The entries of the
prefix byte 0xCB and of the invalid opcodes are 0 and are never used. -/
def opCycles : Vector (Vector Nat 16) 16 :=
  #v[#v[4, 12, 8, 8, 4, 4, 8, 4, 20, 8, 8, 8, 4, 4, 8, 4],
     #v[4, 12, 8, 8, 4, 4, 8, 4, 12, 8, 8, 8, 4, 4, 8, 4],
     #v[8, 12, 8, 8, 4, 4, 8, 4, 8, 8, 8, 8, 4, 4, 8, 4],
     #v[8, 12, 8, 8, 12, 12, 12, 4, 8, 8, 8, 8, 4, 4, 8, 4],
     #v[4, 4, 4, 4, 4, 4, 8, 4, 4, 4, 4, 4, 4, 4, 8, 4],
     #v[4, 4, 4, 4, 4, 4, 8, 4, 4, 4, 4, 4, 4, 4, 8, 4],
     #v[4, 4, 4, 4, 4, 4, 8, 4, 4, 4, 4, 4, 4, 4, 8, 4],
     #v[8, 8, 8, 8, 8, 8, 4, 8, 4, 4, 4, 4, 4, 4, 8, 4],
     #v[4, 4, 4, 4, 4, 4, 8, 4, 4, 4, 4, 4, 4, 4, 8, 4],
     #v[4, 4, 4, 4, 4, 4, 8, 4, 4, 4, 4, 4, 4, 4, 8, 4],
     #v[4, 4, 4, 4, 4, 4, 8, 4, 4, 4, 4, 4, 4, 4, 8, 4],
     #v[4, 4, 4, 4, 4, 4, 8, 4, 4, 4, 4, 4, 4, 4, 8, 4],
     #v[8, 12, 12, 16, 12, 16, 8, 16, 8, 16, 12, 0, 12, 24, 8, 16],
     #v[8, 12, 12, 0, 12, 16, 8, 16, 8, 16, 12, 0, 12, 0, 8, 16],
     #v[12, 12, 8, 0, 0, 16, 8, 16, 16, 4, 16, 0, 0, 0, 8, 16],
     #v[12, 12, 8, 4, 0, 16, 8, 16, 12, 8, 16, 4, 0, 0, 8, 16]]

/-- The cost of a CB-prefixed instruction by its second byte (R179, R324): 8, with `(HL)` 16, BIT b,(HL) 12. -/
def cbCycles (b1 : Byte) : Nat :=
  if b1.extractLsb' 0 3 = 6 then (if b1.extractLsb' 6 2 = 1 then 12 else 16) else 8

/-- The cost of an encoded instruction without a taken condition. -/
def baseCycles (bytes : List Byte) : Nat :=
  match bytes with
  | [] => 0
  | [b0] => (opCycles.get (highNibble b0)).get (lowNibble b0)
  | b0 :: b1 :: _ => if b0 = 0xCB then cbCycles b1 else (opCycles.get (highNibble b0)).get (lowNibble b0)

/-- The conditional opcodes with their condition and what each adds when it holds: 4 for JR and JP, 12 for RET and CALL (R182,
R372, R375, R377, R379). -/
def conditionTable : List (Nat × Cond × Nat) :=
  [(0x20, .nz, 4), (0x28, .z, 4), (0x30, .nc, 4), (0x38, .c, 4),
   (0xC0, .nz, 12), (0xC8, .z, 12), (0xD0, .nc, 12), (0xD8, .c, 12),
   (0xC2, .nz, 4), (0xCA, .z, 4), (0xD2, .nc, 4), (0xDA, .c, 4),
   (0xC4, .nz, 12), (0xCC, .z, 12), (0xD4, .nc, 12), (0xDC, .c, 12)]

/-- The condition of an encoded instruction, if it has one, and its extra cost. -/
def conditionOf (bytes : List Byte) : Option (Cond × Nat) :=
  match bytes with
  | [] => none
  | b0 :: _ => conditionTable.lookup b0.toNat

/-- The extra cost of a condition that holds. -/
def takenCycles (bytes : List Byte) (c : Cpu) : Nat :=
  match conditionOf bytes with
  | none => 0
  | some (cc, extra) => if c.cond cc then extra else 0

/-- The cost of executing an instruction on the flags it starts with (R691). -/
def cost (i : Instr) (s : State) : Nat := baseCycles (encode i) + takenCycles (encode i) s.cpu

end Sys2Proof.Machine
end

