-- ==== Sys2Proof/Machine/Dma.lean ====
section
/-! DEFINITION. The OAM DMA engine (62_dma.md, R500 to R505). Its start is `Dma.start` in Machine/Bus.lean. -/

namespace Sys2Proof.Machine

/-- `DmaSourceRead(a)` (R503): no gate; 0xFF from 0xFE00 up. -/
def dmaSourceRead (addr : Word16) (s : State) : Byte :=
  match region addr with
  | .rom0 => s.cart.rom.read addr.toNat
  | .romN => s.cart.rom.read (romIndex addr s)
  | .vram => s.vram.read (addr.toNat - 0x8000)
  | .eram => eramRead addr s
  | .wram0 | .wramN => s.wram.read (addr.toNat - 0xC000)
  | .echo => s.wram.read (addr.toNat - 0xE000)
  | .oam | .unused | .io | .apu | .wave | .hram => 0xFF

/-- Copy the byte at the transfer's offset into OAM, past every gate (R502, R503). -/
def dmaCopy (s : State) : State :=
  { s with
    oam := s.oam.write s.dma.offset (dmaSourceRead (s.dma.source + BitVec.ofNat 16 s.dma.offset) s)
    dma.offset := s.dma.offset + 1 }

/-- One cycle of an active transfer (R502). -/
def dmaCycle (s : State) : State :=
  let s := { s with dma.cycles := s.dma.cycles + 1 }
  let s := if s.dma.cycles % 4 = 0 ∧ s.dma.offset < 160 then dmaCopy s else s
  if 648 ≤ s.dma.cycles then { s with dma.active := false } else s

/-- `DmaUpdate(n)` (R502): it ends early when the transfer is over. -/
def dmaUpdate (n : Nat) (s : State) : State :=
  match n with
  | 0 => s
  | k + 1 => if s.dma.active then dmaUpdate k (dmaCycle s) else s

end Sys2Proof.Machine
end

