-- ==== Sys2Proof/Machine/Ops.lean ====
section
/-! DEFINITION. The shared operations of the instructions: loads, ALU, shifts, stack, jumps; taking an interrupt and returning from one;
locking up. PC is past the instruction's bytes when one runs (R35). -/

namespace Sys2Proof.Machine

/-! ### Loads -/

/-- Copy an 8-bit operand (R200, R202, R203). -/
def opLoad (dst src : Op8) (s : State) : State := writeOp8 dst (readOp8 src s) s

/-- Load A from an address (R205, R206, R209, R211, R213). -/
def opLoadA (addr : Word16) (s : State) : State := writeOp8 .a (busRead addr s) s

/-- Store A at an address (R207, R208, R210, R212, R214). -/
def opStoreA (addr : Word16) (s : State) : State := busWrite addr s.cpu.a s

/-- Add a constant to HL (R215 to R218). -/
def opMoveHl (d : Word16) (s : State) : State := s.mapCpu (fun c => c.setHl (c.hl + d))

/-- Write a 16-bit register (R220, R222). -/
def opSetPair (r : Reg16) (w : Word16) (s : State) : State := s.mapCpu (Cpu.setPair r w)

/-! ### The stack (R229) -/

/-- `Push16(v)`: the high byte at SP-1, then the low byte at SP-2. -/
def push16 (v : Word16) (s : State) : State :=
  let s := s.mapCpu (fun c => { c with sp := c.sp - 1 })
  let s := busWrite s.cpu.sp (highByte v) s
  let s := s.mapCpu (fun c => { c with sp := c.sp - 1 })
  busWrite s.cpu.sp (lowByte v) s

/-- The value `Pop16()` returns: the low byte at SP, the high byte at SP+1. -/
def popValue (s : State) : Word16 := busRead (s.cpu.sp + 1) s ++ busRead s.cpu.sp s

/-- SP after `Pop16()`. -/
def popSp (s : State) : State := s.mapCpu (fun c => { c with sp := c.sp + 2 })

/-- Pop into a pair (R231, R235). -/
def opPop (r : StackReg) (s : State) : State := (popSp s).mapCpu (Cpu.setStackPair r (popValue s))

/-! ### Arithmetic, logic, shifts -/

/-- Put an ALU result into A and its flags into F. -/
def setA (r : Alu) (s : State) : State := s.mapCpu (fun c => { c with a := r.value, f := r.flags })

/-- ADD A,s (R251). -/
def opAdd (v : Byte) (s : State) : State := setA (aluAdd s.cpu.a v false) s

/-- ADC A,s (R252). -/
def opAdc (v : Byte) (s : State) : State := setA (aluAdd s.cpu.a v s.cpu.cf) s

/-- SUB s (R253). -/
def opSub (v : Byte) (s : State) : State := setA (aluSub s.cpu.a v false) s

/-- SBC A,s (R254). -/
def opSbc (v : Byte) (s : State) : State := setA (aluSub s.cpu.a v s.cpu.cf) s

/-- AND s (R255). -/
def opAnd (v : Byte) (s : State) : State := setA (aluAnd s.cpu.a v) s

/-- XOR s (R256). -/
def opXor (v : Byte) (s : State) : State := setA (aluXor s.cpu.a v) s

/-- OR s (R257). -/
def opOr (v : Byte) (s : State) : State := setA (aluOr s.cpu.a v) s

/-- CP s: the flags of SUB, A stays (R258). -/
def opCp (v : Byte) (s : State) : State := setFlags (aluSub s.cpu.a v false).flags s

/-- Replace an 8-bit operand by an ALU result and write its flags (R259 to R262, R324 to R332). -/
def opModify (o : Op8) (g : Byte → Alu) (s : State) : State :=
  let r := g (readOp8 o s)
  setFlags r.flags (writeOp8 o r.value s)

/-- INC of an 8-bit operand (R259, R260). -/
def opInc8 (o : Op8) (s : State) : State := opModify o (fun v => aluInc v s.cpu.cf) s

/-- DEC of an 8-bit operand (R261, R262). -/
def opDec8 (o : Op8) (s : State) : State := opModify o (fun v => aluDec v s.cpu.cf) s

/-- A rotate of the accumulator (R320 to R323). -/
def opRotateA (g : Byte → Alu) (s : State) : State := setA (g s.cpu.a).clearZ s

/-- BIT b (R333). -/
def opBit (b : Nat) (o : Op8) (s : State) : State := setFlags (bitFlags (readOp8 o s) b s.cpu.cf) s

/-- RES b (R334). -/
def opRes (b : Nat) (o : Op8) (s : State) : State := writeOp8 o (resBit (readOp8 o s) b) s

/-- SET b (R335). -/
def opSet (b : Nat) (o : Op8) (s : State) : State := writeOp8 o (setBit (readOp8 o s) b) s

/-- INC rr and DEC rr, the constant being 1 or -1 (R300, R301). -/
def opAddPair (r : Reg16) (d : Word16) (s : State) : State := s.mapCpu (fun c => c.setPair r (c.pair r + d))

/-- ADD HL,rr (R302). -/
def opAddHl (r : Reg16) (s : State) : State :=
  s.mapCpu (fun c => { c.setHl (c.hl + c.pair r) with f := addHlFlags c.hl (c.pair r) c.zf })

/-! ### Control transfer -/

/-- `pc <- t`. -/
def jump (t : Word16) (s : State) : State := s.mapCpu (fun c => { c with pc := t })

/-- Push PC and jump (R376, R381). -/
def opCall (t : Word16) (s : State) : State := jump t (push16 s.cpu.pc s)

/-- `pc <- PC + sext_16(e)` (R374). -/
def opJr (e : Byte) (s : State) : State := jump (s.cpu.pc + sext16 e) s

/-- `pc <- Pop16()` (R378). -/
def opRet (s : State) : State := jump (popValue s) (popSp s)

/-- Run an operation if the condition holds (R370). -/
def whenCond (cc : Cond) (g : State → State) (s : State) : State := if s.cpu.cond cc then g s else s

/-! ### Taking an interrupt and returning from one -/

/-- The index of the lowest set bit of a pending mask: the priority of R434. Bit 4 when no lower bit is set. -/
def lowestSet (p : BitVec 5) : Nat :=
  if p.getLsbD 0 then 0
  else if p.getLsbD 1 then 1
  else if p.getLsbD 2 then 2
  else if p.getLsbD 3 then 3
  else 4

/-- The vector of source k: 0x40 + 8k (R432, R440). -/
def vector (k : Nat) : Word16 := BitVec.ofNat 16 (0x40 + 8 * k)

/-- The bookkeeping of a dispatch of source k: `IF[k] <- 0; IME <- 0; enable_next <- 0; halt <- 0; halt_DI <- 0` (R440). -/
def acknowledge (k : Nat) (s : State) : State :=
  { s with
    iflag := s.iflag &&& ~~~(1#5 <<< k)
    cpu := { s.cpu with ime := false, enableNext := false, halt := false, haltDI := false } }

/-- Take the interrupt of source k: acknowledge it, push PC, go to its vector (R440, R442). -/
def takeInterrupt (k : Nat) (s : State) : State := opCall (vector k) (acknowledge k s)

/-- Return from an interrupt: pop PC, `IME <- 1` at once (R380, R443). -/
def returnFromInterrupt (s : State) : State := (opRet s).mapCpu (fun c => { c with ime := true })

/-- The machine after `locked <- 1` with the opcode that the exception records (R426, R430). -/
def lockedState (op : Byte) (s : State) : State := s.mapCpu (fun c => { c with locked := some op })

/-- `raise Locked(op)`: there is no next state (R426, R430). -/
def lockUp (op : Byte) (_ : State) : Result := .fault (.locked op)

end Sys2Proof.Machine
end

