-- ==== Sys2Proof/Machine/Alu16.lean ====
section
/-! DEFINITION. 16-bit arithmetic (42_alu16.md R300 to R304): one meaning for each row of the opcode table. -/

namespace Sys2Proof.Machine

/-- INC BC (R300). -/
def execInc_BC (s : State) : Result := .next (opAddPair .bc 1 s)

/-- ADD HL,BC (R302). -/
def execAdd_HL_BC (s : State) : Result := .next (opAddHl .bc s)

/-- DEC BC (R301). -/
def execDec_BC (s : State) : Result := .next (opAddPair .bc (-1) s)

/-- INC DE (R300). -/
def execInc_DE (s : State) : Result := .next (opAddPair .de 1 s)

/-- ADD HL,DE (R302). -/
def execAdd_HL_DE (s : State) : Result := .next (opAddHl .de s)

/-- DEC DE (R301). -/
def execDec_DE (s : State) : Result := .next (opAddPair .de (-1) s)

/-- INC HL (R300). -/
def execInc_HL (s : State) : Result := .next (opAddPair .hl 1 s)

/-- ADD HL,HL (R302). -/
def execAdd_HL_HL (s : State) : Result := .next (opAddHl .hl s)

/-- DEC HL (R301). -/
def execDec_HL (s : State) : Result := .next (opAddPair .hl (-1) s)

/-- INC SP (R300). -/
def execInc_SP (s : State) : Result := .next (opAddPair .sp 1 s)

/-- ADD HL,SP (R302). -/
def execAdd_HL_SP (s : State) : Result := .next (opAddHl .sp s)

/-- DEC SP (R301). -/
def execDec_SP (s : State) : Result := .next (opAddPair .sp (-1) s)

/-- ADD SP,e (R303). -/
def execAdd_SP_e (e : Byte) (s : State) : Result := .next (s.mapCpu (fun c => { c with sp := c.sp + sext16 e, f := addSpFlags c.sp e }))

/-- LD HL,SP+e (R304). -/
def execLd_HL_SPe (e : Byte) (s : State) : Result := .next (s.mapCpu (fun c => { c.setHl (c.sp + sext16 e) with f := addSpFlags c.sp e }))

end Sys2Proof.Machine
end

