-- ==== Sys2Proof/Machine/Alu8.lean ====
section
/-! DEFINITION. 8-bit arithmetic and logic (41_alu8.md R251 to R266): one meaning for each row of the opcode table. -/

namespace Sys2Proof.Machine

/-- INC B (R259). -/
def execInc_B (s : State) : Result := .next (opInc8 .b s)

/-- DEC B (R261). -/
def execDec_B (s : State) : Result := .next (opDec8 .b s)

/-- INC C (R259). -/
def execInc_C (s : State) : Result := .next (opInc8 .c s)

/-- DEC C (R261). -/
def execDec_C (s : State) : Result := .next (opDec8 .c s)

/-- INC D (R259). -/
def execInc_D (s : State) : Result := .next (opInc8 .d s)

/-- DEC D (R261). -/
def execDec_D (s : State) : Result := .next (opDec8 .d s)

/-- INC E (R259). -/
def execInc_E (s : State) : Result := .next (opInc8 .e s)

/-- DEC E (R261). -/
def execDec_E (s : State) : Result := .next (opDec8 .e s)

/-- INC H (R259). -/
def execInc_H (s : State) : Result := .next (opInc8 .h s)

/-- DEC H (R261). -/
def execDec_H (s : State) : Result := .next (opDec8 .h s)

/-- DAA (R263). -/
def execDaa (s : State) : Result := .next (setA (aluDaa s.cpu.a s.cpu.nf s.cpu.hf s.cpu.cf) s)

/-- INC L (R259). -/
def execInc_L (s : State) : Result := .next (opInc8 .l s)

/-- DEC L (R261). -/
def execDec_L (s : State) : Result := .next (opDec8 .l s)

/-- CPL (R264). -/
def execCpl (s : State) : Result := .next (setA ⟨~~~s.cpu.a, mkFlags s.cpu.zf true true s.cpu.cf⟩ s)

/-- INC (HL) (R260). -/
def execInc_mHL (s : State) : Result := .next (opInc8 .mHL s)

/-- DEC (HL) (R262). -/
def execDec_mHL (s : State) : Result := .next (opDec8 .mHL s)

/-- SCF (R265). -/
def execScf (s : State) : Result := .next (setFlags (mkFlags s.cpu.zf false false true) s)

/-- INC A (R259). -/
def execInc_A (s : State) : Result := .next (opInc8 .a s)

/-- DEC A (R261). -/
def execDec_A (s : State) : Result := .next (opDec8 .a s)

/-- CCF (R266). -/
def execCcf (s : State) : Result := .next (setFlags (mkFlags s.cpu.zf false false !s.cpu.cf) s)

/-- ADD A,B (R251). -/
def execAdd_A_B (s : State) : Result := .next (opAdd (readOp8 .b s) s)

/-- ADD A,C (R251). -/
def execAdd_A_C (s : State) : Result := .next (opAdd (readOp8 .c s) s)

/-- ADD A,D (R251). -/
def execAdd_A_D (s : State) : Result := .next (opAdd (readOp8 .d s) s)

/-- ADD A,E (R251). -/
def execAdd_A_E (s : State) : Result := .next (opAdd (readOp8 .e s) s)

/-- ADD A,H (R251). -/
def execAdd_A_H (s : State) : Result := .next (opAdd (readOp8 .h s) s)

/-- ADD A,L (R251). -/
def execAdd_A_L (s : State) : Result := .next (opAdd (readOp8 .l s) s)

/-- ADD A,(HL) (R251). -/
def execAdd_A_mHL (s : State) : Result := .next (opAdd (readOp8 .mHL s) s)

/-- ADD A,A (R251). -/
def execAdd_A_A (s : State) : Result := .next (opAdd (readOp8 .a s) s)

/-- ADC A,B (R252). -/
def execAdc_A_B (s : State) : Result := .next (opAdc (readOp8 .b s) s)

/-- ADC A,C (R252). -/
def execAdc_A_C (s : State) : Result := .next (opAdc (readOp8 .c s) s)

/-- ADC A,D (R252). -/
def execAdc_A_D (s : State) : Result := .next (opAdc (readOp8 .d s) s)

/-- ADC A,E (R252). -/
def execAdc_A_E (s : State) : Result := .next (opAdc (readOp8 .e s) s)

/-- ADC A,H (R252). -/
def execAdc_A_H (s : State) : Result := .next (opAdc (readOp8 .h s) s)

/-- ADC A,L (R252). -/
def execAdc_A_L (s : State) : Result := .next (opAdc (readOp8 .l s) s)

/-- ADC A,(HL) (R252). -/
def execAdc_A_mHL (s : State) : Result := .next (opAdc (readOp8 .mHL s) s)

/-- ADC A,A (R252). -/
def execAdc_A_A (s : State) : Result := .next (opAdc (readOp8 .a s) s)

/-- SUB B (R253). -/
def execSub_B (s : State) : Result := .next (opSub (readOp8 .b s) s)

/-- SUB C (R253). -/
def execSub_C (s : State) : Result := .next (opSub (readOp8 .c s) s)

/-- SUB D (R253). -/
def execSub_D (s : State) : Result := .next (opSub (readOp8 .d s) s)

/-- SUB E (R253). -/
def execSub_E (s : State) : Result := .next (opSub (readOp8 .e s) s)

/-- SUB H (R253). -/
def execSub_H (s : State) : Result := .next (opSub (readOp8 .h s) s)

/-- SUB L (R253). -/
def execSub_L (s : State) : Result := .next (opSub (readOp8 .l s) s)

/-- SUB (HL) (R253). -/
def execSub_mHL (s : State) : Result := .next (opSub (readOp8 .mHL s) s)

/-- SUB A (R253). -/
def execSub_A (s : State) : Result := .next (opSub (readOp8 .a s) s)

/-- SBC A,B (R254). -/
def execSbc_A_B (s : State) : Result := .next (opSbc (readOp8 .b s) s)

/-- SBC A,C (R254). -/
def execSbc_A_C (s : State) : Result := .next (opSbc (readOp8 .c s) s)

/-- SBC A,D (R254). -/
def execSbc_A_D (s : State) : Result := .next (opSbc (readOp8 .d s) s)

/-- SBC A,E (R254). -/
def execSbc_A_E (s : State) : Result := .next (opSbc (readOp8 .e s) s)

/-- SBC A,H (R254). -/
def execSbc_A_H (s : State) : Result := .next (opSbc (readOp8 .h s) s)

/-- SBC A,L (R254). -/
def execSbc_A_L (s : State) : Result := .next (opSbc (readOp8 .l s) s)

/-- SBC A,(HL) (R254). -/
def execSbc_A_mHL (s : State) : Result := .next (opSbc (readOp8 .mHL s) s)

/-- SBC A,A (R254). -/
def execSbc_A_A (s : State) : Result := .next (opSbc (readOp8 .a s) s)

/-- AND B (R255). -/
def execAnd_B (s : State) : Result := .next (opAnd (readOp8 .b s) s)

/-- AND C (R255). -/
def execAnd_C (s : State) : Result := .next (opAnd (readOp8 .c s) s)

/-- AND D (R255). -/
def execAnd_D (s : State) : Result := .next (opAnd (readOp8 .d s) s)

/-- AND E (R255). -/
def execAnd_E (s : State) : Result := .next (opAnd (readOp8 .e s) s)

/-- AND H (R255). -/
def execAnd_H (s : State) : Result := .next (opAnd (readOp8 .h s) s)

/-- AND L (R255). -/
def execAnd_L (s : State) : Result := .next (opAnd (readOp8 .l s) s)

/-- AND (HL) (R255). -/
def execAnd_mHL (s : State) : Result := .next (opAnd (readOp8 .mHL s) s)

/-- AND A (R255). -/
def execAnd_A (s : State) : Result := .next (opAnd (readOp8 .a s) s)

/-- XOR B (R256). -/
def execXor_B (s : State) : Result := .next (opXor (readOp8 .b s) s)

/-- XOR C (R256). -/
def execXor_C (s : State) : Result := .next (opXor (readOp8 .c s) s)

/-- XOR D (R256). -/
def execXor_D (s : State) : Result := .next (opXor (readOp8 .d s) s)

/-- XOR E (R256). -/
def execXor_E (s : State) : Result := .next (opXor (readOp8 .e s) s)

/-- XOR H (R256). -/
def execXor_H (s : State) : Result := .next (opXor (readOp8 .h s) s)

/-- XOR L (R256). -/
def execXor_L (s : State) : Result := .next (opXor (readOp8 .l s) s)

/-- XOR (HL) (R256). -/
def execXor_mHL (s : State) : Result := .next (opXor (readOp8 .mHL s) s)

/-- XOR A (R256). -/
def execXor_A (s : State) : Result := .next (opXor (readOp8 .a s) s)

/-- OR B (R257). -/
def execOr_B (s : State) : Result := .next (opOr (readOp8 .b s) s)

/-- OR C (R257). -/
def execOr_C (s : State) : Result := .next (opOr (readOp8 .c s) s)

/-- OR D (R257). -/
def execOr_D (s : State) : Result := .next (opOr (readOp8 .d s) s)

/-- OR E (R257). -/
def execOr_E (s : State) : Result := .next (opOr (readOp8 .e s) s)

/-- OR H (R257). -/
def execOr_H (s : State) : Result := .next (opOr (readOp8 .h s) s)

/-- OR L (R257). -/
def execOr_L (s : State) : Result := .next (opOr (readOp8 .l s) s)

/-- OR (HL) (R257). -/
def execOr_mHL (s : State) : Result := .next (opOr (readOp8 .mHL s) s)

/-- OR A (R257). -/
def execOr_A (s : State) : Result := .next (opOr (readOp8 .a s) s)

/-- CP B (R258). -/
def execCp_B (s : State) : Result := .next (opCp (readOp8 .b s) s)

/-- CP C (R258). -/
def execCp_C (s : State) : Result := .next (opCp (readOp8 .c s) s)

/-- CP D (R258). -/
def execCp_D (s : State) : Result := .next (opCp (readOp8 .d s) s)

/-- CP E (R258). -/
def execCp_E (s : State) : Result := .next (opCp (readOp8 .e s) s)

/-- CP H (R258). -/
def execCp_H (s : State) : Result := .next (opCp (readOp8 .h s) s)

/-- CP L (R258). -/
def execCp_L (s : State) : Result := .next (opCp (readOp8 .l s) s)

/-- CP (HL) (R258). -/
def execCp_mHL (s : State) : Result := .next (opCp (readOp8 .mHL s) s)

/-- CP A (R258). -/
def execCp_A (s : State) : Result := .next (opCp (readOp8 .a s) s)

/-- ADD A,n (R251). -/
def execAdd_A_n (n : Byte) (s : State) : Result := .next (opAdd n s)

/-- ADC A,n (R252). -/
def execAdc_A_n (n : Byte) (s : State) : Result := .next (opAdc n s)

/-- SUB n (R253). -/
def execSub_n (n : Byte) (s : State) : Result := .next (opSub n s)

/-- SBC A,n (R254). -/
def execSbc_A_n (n : Byte) (s : State) : Result := .next (opSbc n s)

/-- AND n (R255). -/
def execAnd_n (n : Byte) (s : State) : Result := .next (opAnd n s)

/-- XOR n (R256). -/
def execXor_n (n : Byte) (s : State) : Result := .next (opXor n s)

/-- OR n (R257). -/
def execOr_n (n : Byte) (s : State) : Result := .next (opOr n s)

/-- CP n (R258). -/
def execCp_n (n : Byte) (s : State) : Result := .next (opCp n s)

end Sys2Proof.Machine
end

