-- ==== Sys2Proof/Machine/Bits.lean ====
section
/-! DEFINITION. BIT, RES and SET (43_rotate_shift_bit.md R333 to R335): one meaning for each row of the opcode table. -/

namespace Sys2Proof.Machine

/-- BIT 0,B (R333). -/
def execBit_0_B (s : State) : Result := .next (opBit 0 .b s)

/-- BIT 0,C (R333). -/
def execBit_0_C (s : State) : Result := .next (opBit 0 .c s)

/-- BIT 0,D (R333). -/
def execBit_0_D (s : State) : Result := .next (opBit 0 .d s)

/-- BIT 0,E (R333). -/
def execBit_0_E (s : State) : Result := .next (opBit 0 .e s)

/-- BIT 0,H (R333). -/
def execBit_0_H (s : State) : Result := .next (opBit 0 .h s)

/-- BIT 0,L (R333). -/
def execBit_0_L (s : State) : Result := .next (opBit 0 .l s)

/-- BIT 0,(HL) (R333). -/
def execBit_0_mHL (s : State) : Result := .next (opBit 0 .mHL s)

/-- BIT 0,A (R333). -/
def execBit_0_A (s : State) : Result := .next (opBit 0 .a s)

/-- BIT 1,B (R333). -/
def execBit_1_B (s : State) : Result := .next (opBit 1 .b s)

/-- BIT 1,C (R333). -/
def execBit_1_C (s : State) : Result := .next (opBit 1 .c s)

/-- BIT 1,D (R333). -/
def execBit_1_D (s : State) : Result := .next (opBit 1 .d s)

/-- BIT 1,E (R333). -/
def execBit_1_E (s : State) : Result := .next (opBit 1 .e s)

/-- BIT 1,H (R333). -/
def execBit_1_H (s : State) : Result := .next (opBit 1 .h s)

/-- BIT 1,L (R333). -/
def execBit_1_L (s : State) : Result := .next (opBit 1 .l s)

/-- BIT 1,(HL) (R333). -/
def execBit_1_mHL (s : State) : Result := .next (opBit 1 .mHL s)

/-- BIT 1,A (R333). -/
def execBit_1_A (s : State) : Result := .next (opBit 1 .a s)

/-- BIT 2,B (R333). -/
def execBit_2_B (s : State) : Result := .next (opBit 2 .b s)

/-- BIT 2,C (R333). -/
def execBit_2_C (s : State) : Result := .next (opBit 2 .c s)

/-- BIT 2,D (R333). -/
def execBit_2_D (s : State) : Result := .next (opBit 2 .d s)

/-- BIT 2,E (R333). -/
def execBit_2_E (s : State) : Result := .next (opBit 2 .e s)

/-- BIT 2,H (R333). -/
def execBit_2_H (s : State) : Result := .next (opBit 2 .h s)

/-- BIT 2,L (R333). -/
def execBit_2_L (s : State) : Result := .next (opBit 2 .l s)

/-- BIT 2,(HL) (R333). -/
def execBit_2_mHL (s : State) : Result := .next (opBit 2 .mHL s)

/-- BIT 2,A (R333). -/
def execBit_2_A (s : State) : Result := .next (opBit 2 .a s)

/-- BIT 3,B (R333). -/
def execBit_3_B (s : State) : Result := .next (opBit 3 .b s)

/-- BIT 3,C (R333). -/
def execBit_3_C (s : State) : Result := .next (opBit 3 .c s)

/-- BIT 3,D (R333). -/
def execBit_3_D (s : State) : Result := .next (opBit 3 .d s)

/-- BIT 3,E (R333). -/
def execBit_3_E (s : State) : Result := .next (opBit 3 .e s)

/-- BIT 3,H (R333). -/
def execBit_3_H (s : State) : Result := .next (opBit 3 .h s)

/-- BIT 3,L (R333). -/
def execBit_3_L (s : State) : Result := .next (opBit 3 .l s)

/-- BIT 3,(HL) (R333). -/
def execBit_3_mHL (s : State) : Result := .next (opBit 3 .mHL s)

/-- BIT 3,A (R333). -/
def execBit_3_A (s : State) : Result := .next (opBit 3 .a s)

/-- BIT 4,B (R333). -/
def execBit_4_B (s : State) : Result := .next (opBit 4 .b s)

/-- BIT 4,C (R333). -/
def execBit_4_C (s : State) : Result := .next (opBit 4 .c s)

/-- BIT 4,D (R333). -/
def execBit_4_D (s : State) : Result := .next (opBit 4 .d s)

/-- BIT 4,E (R333). -/
def execBit_4_E (s : State) : Result := .next (opBit 4 .e s)

/-- BIT 4,H (R333). -/
def execBit_4_H (s : State) : Result := .next (opBit 4 .h s)

/-- BIT 4,L (R333). -/
def execBit_4_L (s : State) : Result := .next (opBit 4 .l s)

/-- BIT 4,(HL) (R333). -/
def execBit_4_mHL (s : State) : Result := .next (opBit 4 .mHL s)

/-- BIT 4,A (R333). -/
def execBit_4_A (s : State) : Result := .next (opBit 4 .a s)

/-- BIT 5,B (R333). -/
def execBit_5_B (s : State) : Result := .next (opBit 5 .b s)

/-- BIT 5,C (R333). -/
def execBit_5_C (s : State) : Result := .next (opBit 5 .c s)

/-- BIT 5,D (R333). -/
def execBit_5_D (s : State) : Result := .next (opBit 5 .d s)

/-- BIT 5,E (R333). -/
def execBit_5_E (s : State) : Result := .next (opBit 5 .e s)

/-- BIT 5,H (R333). -/
def execBit_5_H (s : State) : Result := .next (opBit 5 .h s)

/-- BIT 5,L (R333). -/
def execBit_5_L (s : State) : Result := .next (opBit 5 .l s)

/-- BIT 5,(HL) (R333). -/
def execBit_5_mHL (s : State) : Result := .next (opBit 5 .mHL s)

/-- BIT 5,A (R333). -/
def execBit_5_A (s : State) : Result := .next (opBit 5 .a s)

/-- BIT 6,B (R333). -/
def execBit_6_B (s : State) : Result := .next (opBit 6 .b s)

/-- BIT 6,C (R333). -/
def execBit_6_C (s : State) : Result := .next (opBit 6 .c s)

/-- BIT 6,D (R333). -/
def execBit_6_D (s : State) : Result := .next (opBit 6 .d s)

/-- BIT 6,E (R333). -/
def execBit_6_E (s : State) : Result := .next (opBit 6 .e s)

/-- BIT 6,H (R333). -/
def execBit_6_H (s : State) : Result := .next (opBit 6 .h s)

/-- BIT 6,L (R333). -/
def execBit_6_L (s : State) : Result := .next (opBit 6 .l s)

/-- BIT 6,(HL) (R333). -/
def execBit_6_mHL (s : State) : Result := .next (opBit 6 .mHL s)

/-- BIT 6,A (R333). -/
def execBit_6_A (s : State) : Result := .next (opBit 6 .a s)

/-- BIT 7,B (R333). -/
def execBit_7_B (s : State) : Result := .next (opBit 7 .b s)

/-- BIT 7,C (R333). -/
def execBit_7_C (s : State) : Result := .next (opBit 7 .c s)

/-- BIT 7,D (R333). -/
def execBit_7_D (s : State) : Result := .next (opBit 7 .d s)

/-- BIT 7,E (R333). -/
def execBit_7_E (s : State) : Result := .next (opBit 7 .e s)

/-- BIT 7,H (R333). -/
def execBit_7_H (s : State) : Result := .next (opBit 7 .h s)

/-- BIT 7,L (R333). -/
def execBit_7_L (s : State) : Result := .next (opBit 7 .l s)

/-- BIT 7,(HL) (R333). -/
def execBit_7_mHL (s : State) : Result := .next (opBit 7 .mHL s)

/-- BIT 7,A (R333). -/
def execBit_7_A (s : State) : Result := .next (opBit 7 .a s)

/-- RES 0,B (R334). -/
def execRes_0_B (s : State) : Result := .next (opRes 0 .b s)

/-- RES 0,C (R334). -/
def execRes_0_C (s : State) : Result := .next (opRes 0 .c s)

/-- RES 0,D (R334). -/
def execRes_0_D (s : State) : Result := .next (opRes 0 .d s)

/-- RES 0,E (R334). -/
def execRes_0_E (s : State) : Result := .next (opRes 0 .e s)

/-- RES 0,H (R334). -/
def execRes_0_H (s : State) : Result := .next (opRes 0 .h s)

/-- RES 0,L (R334). -/
def execRes_0_L (s : State) : Result := .next (opRes 0 .l s)

/-- RES 0,(HL) (R334). -/
def execRes_0_mHL (s : State) : Result := .next (opRes 0 .mHL s)

/-- RES 0,A (R334). -/
def execRes_0_A (s : State) : Result := .next (opRes 0 .a s)

/-- RES 1,B (R334). -/
def execRes_1_B (s : State) : Result := .next (opRes 1 .b s)

/-- RES 1,C (R334). -/
def execRes_1_C (s : State) : Result := .next (opRes 1 .c s)

/-- RES 1,D (R334). -/
def execRes_1_D (s : State) : Result := .next (opRes 1 .d s)

/-- RES 1,E (R334). -/
def execRes_1_E (s : State) : Result := .next (opRes 1 .e s)

/-- RES 1,H (R334). -/
def execRes_1_H (s : State) : Result := .next (opRes 1 .h s)

/-- RES 1,L (R334). -/
def execRes_1_L (s : State) : Result := .next (opRes 1 .l s)

/-- RES 1,(HL) (R334). -/
def execRes_1_mHL (s : State) : Result := .next (opRes 1 .mHL s)

/-- RES 1,A (R334). -/
def execRes_1_A (s : State) : Result := .next (opRes 1 .a s)

/-- RES 2,B (R334). -/
def execRes_2_B (s : State) : Result := .next (opRes 2 .b s)

/-- RES 2,C (R334). -/
def execRes_2_C (s : State) : Result := .next (opRes 2 .c s)

/-- RES 2,D (R334). -/
def execRes_2_D (s : State) : Result := .next (opRes 2 .d s)

/-- RES 2,E (R334). -/
def execRes_2_E (s : State) : Result := .next (opRes 2 .e s)

/-- RES 2,H (R334). -/
def execRes_2_H (s : State) : Result := .next (opRes 2 .h s)

/-- RES 2,L (R334). -/
def execRes_2_L (s : State) : Result := .next (opRes 2 .l s)

/-- RES 2,(HL) (R334). -/
def execRes_2_mHL (s : State) : Result := .next (opRes 2 .mHL s)

/-- RES 2,A (R334). -/
def execRes_2_A (s : State) : Result := .next (opRes 2 .a s)

/-- RES 3,B (R334). -/
def execRes_3_B (s : State) : Result := .next (opRes 3 .b s)

/-- RES 3,C (R334). -/
def execRes_3_C (s : State) : Result := .next (opRes 3 .c s)

/-- RES 3,D (R334). -/
def execRes_3_D (s : State) : Result := .next (opRes 3 .d s)

/-- RES 3,E (R334). -/
def execRes_3_E (s : State) : Result := .next (opRes 3 .e s)

/-- RES 3,H (R334). -/
def execRes_3_H (s : State) : Result := .next (opRes 3 .h s)

/-- RES 3,L (R334). -/
def execRes_3_L (s : State) : Result := .next (opRes 3 .l s)

/-- RES 3,(HL) (R334). -/
def execRes_3_mHL (s : State) : Result := .next (opRes 3 .mHL s)

/-- RES 3,A (R334). -/
def execRes_3_A (s : State) : Result := .next (opRes 3 .a s)

/-- RES 4,B (R334). -/
def execRes_4_B (s : State) : Result := .next (opRes 4 .b s)

/-- RES 4,C (R334). -/
def execRes_4_C (s : State) : Result := .next (opRes 4 .c s)

/-- RES 4,D (R334). -/
def execRes_4_D (s : State) : Result := .next (opRes 4 .d s)

/-- RES 4,E (R334). -/
def execRes_4_E (s : State) : Result := .next (opRes 4 .e s)

/-- RES 4,H (R334). -/
def execRes_4_H (s : State) : Result := .next (opRes 4 .h s)

/-- RES 4,L (R334). -/
def execRes_4_L (s : State) : Result := .next (opRes 4 .l s)

/-- RES 4,(HL) (R334). -/
def execRes_4_mHL (s : State) : Result := .next (opRes 4 .mHL s)

/-- RES 4,A (R334). -/
def execRes_4_A (s : State) : Result := .next (opRes 4 .a s)

/-- RES 5,B (R334). -/
def execRes_5_B (s : State) : Result := .next (opRes 5 .b s)

/-- RES 5,C (R334). -/
def execRes_5_C (s : State) : Result := .next (opRes 5 .c s)

/-- RES 5,D (R334). -/
def execRes_5_D (s : State) : Result := .next (opRes 5 .d s)

/-- RES 5,E (R334). -/
def execRes_5_E (s : State) : Result := .next (opRes 5 .e s)

/-- RES 5,H (R334). -/
def execRes_5_H (s : State) : Result := .next (opRes 5 .h s)

/-- RES 5,L (R334). -/
def execRes_5_L (s : State) : Result := .next (opRes 5 .l s)

/-- RES 5,(HL) (R334). -/
def execRes_5_mHL (s : State) : Result := .next (opRes 5 .mHL s)

/-- RES 5,A (R334). -/
def execRes_5_A (s : State) : Result := .next (opRes 5 .a s)

/-- RES 6,B (R334). -/
def execRes_6_B (s : State) : Result := .next (opRes 6 .b s)

/-- RES 6,C (R334). -/
def execRes_6_C (s : State) : Result := .next (opRes 6 .c s)

/-- RES 6,D (R334). -/
def execRes_6_D (s : State) : Result := .next (opRes 6 .d s)

/-- RES 6,E (R334). -/
def execRes_6_E (s : State) : Result := .next (opRes 6 .e s)

/-- RES 6,H (R334). -/
def execRes_6_H (s : State) : Result := .next (opRes 6 .h s)

/-- RES 6,L (R334). -/
def execRes_6_L (s : State) : Result := .next (opRes 6 .l s)

/-- RES 6,(HL) (R334). -/
def execRes_6_mHL (s : State) : Result := .next (opRes 6 .mHL s)

/-- RES 6,A (R334). -/
def execRes_6_A (s : State) : Result := .next (opRes 6 .a s)

/-- RES 7,B (R334). -/
def execRes_7_B (s : State) : Result := .next (opRes 7 .b s)

/-- RES 7,C (R334). -/
def execRes_7_C (s : State) : Result := .next (opRes 7 .c s)

/-- RES 7,D (R334). -/
def execRes_7_D (s : State) : Result := .next (opRes 7 .d s)

/-- RES 7,E (R334). -/
def execRes_7_E (s : State) : Result := .next (opRes 7 .e s)

/-- RES 7,H (R334). -/
def execRes_7_H (s : State) : Result := .next (opRes 7 .h s)

/-- RES 7,L (R334). -/
def execRes_7_L (s : State) : Result := .next (opRes 7 .l s)

/-- RES 7,(HL) (R334). -/
def execRes_7_mHL (s : State) : Result := .next (opRes 7 .mHL s)

/-- RES 7,A (R334). -/
def execRes_7_A (s : State) : Result := .next (opRes 7 .a s)

/-- SET 0,B (R335). -/
def execSet_0_B (s : State) : Result := .next (opSet 0 .b s)

/-- SET 0,C (R335). -/
def execSet_0_C (s : State) : Result := .next (opSet 0 .c s)

/-- SET 0,D (R335). -/
def execSet_0_D (s : State) : Result := .next (opSet 0 .d s)

/-- SET 0,E (R335). -/
def execSet_0_E (s : State) : Result := .next (opSet 0 .e s)

/-- SET 0,H (R335). -/
def execSet_0_H (s : State) : Result := .next (opSet 0 .h s)

/-- SET 0,L (R335). -/
def execSet_0_L (s : State) : Result := .next (opSet 0 .l s)

/-- SET 0,(HL) (R335). -/
def execSet_0_mHL (s : State) : Result := .next (opSet 0 .mHL s)

/-- SET 0,A (R335). -/
def execSet_0_A (s : State) : Result := .next (opSet 0 .a s)

/-- SET 1,B (R335). -/
def execSet_1_B (s : State) : Result := .next (opSet 1 .b s)

/-- SET 1,C (R335). -/
def execSet_1_C (s : State) : Result := .next (opSet 1 .c s)

/-- SET 1,D (R335). -/
def execSet_1_D (s : State) : Result := .next (opSet 1 .d s)

/-- SET 1,E (R335). -/
def execSet_1_E (s : State) : Result := .next (opSet 1 .e s)

/-- SET 1,H (R335). -/
def execSet_1_H (s : State) : Result := .next (opSet 1 .h s)

/-- SET 1,L (R335). -/
def execSet_1_L (s : State) : Result := .next (opSet 1 .l s)

/-- SET 1,(HL) (R335). -/
def execSet_1_mHL (s : State) : Result := .next (opSet 1 .mHL s)

/-- SET 1,A (R335). -/
def execSet_1_A (s : State) : Result := .next (opSet 1 .a s)

/-- SET 2,B (R335). -/
def execSet_2_B (s : State) : Result := .next (opSet 2 .b s)

/-- SET 2,C (R335). -/
def execSet_2_C (s : State) : Result := .next (opSet 2 .c s)

/-- SET 2,D (R335). -/
def execSet_2_D (s : State) : Result := .next (opSet 2 .d s)

/-- SET 2,E (R335). -/
def execSet_2_E (s : State) : Result := .next (opSet 2 .e s)

/-- SET 2,H (R335). -/
def execSet_2_H (s : State) : Result := .next (opSet 2 .h s)

/-- SET 2,L (R335). -/
def execSet_2_L (s : State) : Result := .next (opSet 2 .l s)

/-- SET 2,(HL) (R335). -/
def execSet_2_mHL (s : State) : Result := .next (opSet 2 .mHL s)

/-- SET 2,A (R335). -/
def execSet_2_A (s : State) : Result := .next (opSet 2 .a s)

/-- SET 3,B (R335). -/
def execSet_3_B (s : State) : Result := .next (opSet 3 .b s)

/-- SET 3,C (R335). -/
def execSet_3_C (s : State) : Result := .next (opSet 3 .c s)

/-- SET 3,D (R335). -/
def execSet_3_D (s : State) : Result := .next (opSet 3 .d s)

/-- SET 3,E (R335). -/
def execSet_3_E (s : State) : Result := .next (opSet 3 .e s)

/-- SET 3,H (R335). -/
def execSet_3_H (s : State) : Result := .next (opSet 3 .h s)

/-- SET 3,L (R335). -/
def execSet_3_L (s : State) : Result := .next (opSet 3 .l s)

/-- SET 3,(HL) (R335). -/
def execSet_3_mHL (s : State) : Result := .next (opSet 3 .mHL s)

/-- SET 3,A (R335). -/
def execSet_3_A (s : State) : Result := .next (opSet 3 .a s)

/-- SET 4,B (R335). -/
def execSet_4_B (s : State) : Result := .next (opSet 4 .b s)

/-- SET 4,C (R335). -/
def execSet_4_C (s : State) : Result := .next (opSet 4 .c s)

/-- SET 4,D (R335). -/
def execSet_4_D (s : State) : Result := .next (opSet 4 .d s)

/-- SET 4,E (R335). -/
def execSet_4_E (s : State) : Result := .next (opSet 4 .e s)

/-- SET 4,H (R335). -/
def execSet_4_H (s : State) : Result := .next (opSet 4 .h s)

/-- SET 4,L (R335). -/
def execSet_4_L (s : State) : Result := .next (opSet 4 .l s)

/-- SET 4,(HL) (R335). -/
def execSet_4_mHL (s : State) : Result := .next (opSet 4 .mHL s)

/-- SET 4,A (R335). -/
def execSet_4_A (s : State) : Result := .next (opSet 4 .a s)

/-- SET 5,B (R335). -/
def execSet_5_B (s : State) : Result := .next (opSet 5 .b s)

/-- SET 5,C (R335). -/
def execSet_5_C (s : State) : Result := .next (opSet 5 .c s)

/-- SET 5,D (R335). -/
def execSet_5_D (s : State) : Result := .next (opSet 5 .d s)

/-- SET 5,E (R335). -/
def execSet_5_E (s : State) : Result := .next (opSet 5 .e s)

/-- SET 5,H (R335). -/
def execSet_5_H (s : State) : Result := .next (opSet 5 .h s)

/-- SET 5,L (R335). -/
def execSet_5_L (s : State) : Result := .next (opSet 5 .l s)

/-- SET 5,(HL) (R335). -/
def execSet_5_mHL (s : State) : Result := .next (opSet 5 .mHL s)

/-- SET 5,A (R335). -/
def execSet_5_A (s : State) : Result := .next (opSet 5 .a s)

/-- SET 6,B (R335). -/
def execSet_6_B (s : State) : Result := .next (opSet 6 .b s)

/-- SET 6,C (R335). -/
def execSet_6_C (s : State) : Result := .next (opSet 6 .c s)

/-- SET 6,D (R335). -/
def execSet_6_D (s : State) : Result := .next (opSet 6 .d s)

/-- SET 6,E (R335). -/
def execSet_6_E (s : State) : Result := .next (opSet 6 .e s)

/-- SET 6,H (R335). -/
def execSet_6_H (s : State) : Result := .next (opSet 6 .h s)

/-- SET 6,L (R335). -/
def execSet_6_L (s : State) : Result := .next (opSet 6 .l s)

/-- SET 6,(HL) (R335). -/
def execSet_6_mHL (s : State) : Result := .next (opSet 6 .mHL s)

/-- SET 6,A (R335). -/
def execSet_6_A (s : State) : Result := .next (opSet 6 .a s)

/-- SET 7,B (R335). -/
def execSet_7_B (s : State) : Result := .next (opSet 7 .b s)

/-- SET 7,C (R335). -/
def execSet_7_C (s : State) : Result := .next (opSet 7 .c s)

/-- SET 7,D (R335). -/
def execSet_7_D (s : State) : Result := .next (opSet 7 .d s)

/-- SET 7,E (R335). -/
def execSet_7_E (s : State) : Result := .next (opSet 7 .e s)

/-- SET 7,H (R335). -/
def execSet_7_H (s : State) : Result := .next (opSet 7 .h s)

/-- SET 7,L (R335). -/
def execSet_7_L (s : State) : Result := .next (opSet 7 .l s)

/-- SET 7,(HL) (R335). -/
def execSet_7_mHL (s : State) : Result := .next (opSet 7 .mHL s)

/-- SET 7,A (R335). -/
def execSet_7_A (s : State) : Result := .next (opSet 7 .a s)

end Sys2Proof.Machine
end

