-- ==== Sys2Proof/Machine/Control.lean ====
section
/-! DEFINITION. Jumps, calls, returns and restarts (44_control.md R371 to R381): one meaning for each row of the opcode table. -/

namespace Sys2Proof.Machine

/-- JR e (R374). -/
def execJr_e (e : Byte) (s : State) : Result := .next (opJr e s)

/-- JR NZ,e (R375). -/
def execJr_NZ_e (e : Byte) (s : State) : Result := .next (whenCond .nz (opJr e) s)

/-- JR Z,e (R375). -/
def execJr_Z_e (e : Byte) (s : State) : Result := .next (whenCond .z (opJr e) s)

/-- JR NC,e (R375). -/
def execJr_NC_e (e : Byte) (s : State) : Result := .next (whenCond .nc (opJr e) s)

/-- JR C,e (R375). -/
def execJr_C_e (e : Byte) (s : State) : Result := .next (whenCond .c (opJr e) s)

/-- RET NZ (R379). -/
def execRet_NZ (s : State) : Result := .next (whenCond .nz opRet s)

/-- JP NZ,nn (R372). -/
def execJp_NZ_nn (nn : Word16) (s : State) : Result := .next (whenCond .nz (jump nn) s)

/-- JP nn (R371). -/
def execJp_nn (nn : Word16) (s : State) : Result := .next (jump nn s)

/-- CALL NZ,nn (R377). -/
def execCall_NZ_nn (nn : Word16) (s : State) : Result := .next (whenCond .nz (opCall nn) s)

/-- RST 00h (R381). -/
def execRst_00h (s : State) : Result := .next (opCall 0x0000 s)

/-- RET Z (R379). -/
def execRet_Z (s : State) : Result := .next (whenCond .z opRet s)

/-- RET (R378). -/
def execRet (s : State) : Result := .next (opRet s)

/-- JP Z,nn (R372). -/
def execJp_Z_nn (nn : Word16) (s : State) : Result := .next (whenCond .z (jump nn) s)

/-- CALL Z,nn (R377). -/
def execCall_Z_nn (nn : Word16) (s : State) : Result := .next (whenCond .z (opCall nn) s)

/-- CALL nn (R376). -/
def execCall_nn (nn : Word16) (s : State) : Result := .next (opCall nn s)

/-- RST 08h (R381). -/
def execRst_08h (s : State) : Result := .next (opCall 0x0008 s)

/-- RET NC (R379). -/
def execRet_NC (s : State) : Result := .next (whenCond .nc opRet s)

/-- JP NC,nn (R372). -/
def execJp_NC_nn (nn : Word16) (s : State) : Result := .next (whenCond .nc (jump nn) s)

/-- CALL NC,nn (R377). -/
def execCall_NC_nn (nn : Word16) (s : State) : Result := .next (whenCond .nc (opCall nn) s)

/-- RST 10h (R381). -/
def execRst_10h (s : State) : Result := .next (opCall 0x0010 s)

/-- RET C (R379). -/
def execRet_C (s : State) : Result := .next (whenCond .c opRet s)

/-- RETI (R380). -/
def execReti (s : State) : Result := .next (returnFromInterrupt s)

/-- JP C,nn (R372). -/
def execJp_C_nn (nn : Word16) (s : State) : Result := .next (whenCond .c (jump nn) s)

/-- CALL C,nn (R377). -/
def execCall_C_nn (nn : Word16) (s : State) : Result := .next (whenCond .c (opCall nn) s)

/-- RST 18h (R381). -/
def execRst_18h (s : State) : Result := .next (opCall 0x0018 s)

/-- RST 20h (R381). -/
def execRst_20h (s : State) : Result := .next (opCall 0x0020 s)

/-- JP (HL) (R373). -/
def execJp_mHL (s : State) : Result := .next (jump s.cpu.hl s)

/-- RST 28h (R381). -/
def execRst_28h (s : State) : Result := .next (opCall 0x0028 s)

/-- RST 30h (R381). -/
def execRst_30h (s : State) : Result := .next (opCall 0x0030 s)

/-- RST 38h (R381). -/
def execRst_38h (s : State) : Result := .next (opCall 0x0038 s)

end Sys2Proof.Machine
end

