-- ==== Sys2Proof/Machine/Loads16.lean ====
section
/-! DEFINITION. The 16-bit loads, PUSH and POP (40_loads.md R220 to R235): one meaning for each row of the opcode table. -/

namespace Sys2Proof.Machine

/-- LD BC,nn (R220). -/
def execLd_BC_nn (nn : Word16) (s : State) : Result := .next (opSetPair .bc nn s)

/-- LD (nn),SP (R221). -/
def execLd_mnn_SP (nn : Word16) (s : State) : Result := .next (busWrite (nn + 1) (highByte s.cpu.sp) (busWrite nn (lowByte s.cpu.sp) s))

/-- LD DE,nn (R220). -/
def execLd_DE_nn (nn : Word16) (s : State) : Result := .next (opSetPair .de nn s)

/-- LD HL,nn (R220). -/
def execLd_HL_nn (nn : Word16) (s : State) : Result := .next (opSetPair .hl nn s)

/-- LD SP,nn (R220). -/
def execLd_SP_nn (nn : Word16) (s : State) : Result := .next (opSetPair .sp nn s)

/-- POP BC (R231). -/
def execPop_BC (s : State) : Result := .next (opPop .bc s)

/-- PUSH BC (R230). -/
def execPush_BC (s : State) : Result := .next (push16 (s.cpu.stackPair .bc) s)

/-- POP DE (R231). -/
def execPop_DE (s : State) : Result := .next (opPop .de s)

/-- PUSH DE (R230). -/
def execPush_DE (s : State) : Result := .next (push16 (s.cpu.stackPair .de) s)

/-- POP HL (R231). -/
def execPop_HL (s : State) : Result := .next (opPop .hl s)

/-- PUSH HL (R230). -/
def execPush_HL (s : State) : Result := .next (push16 (s.cpu.stackPair .hl) s)

/-- POP AF (R235). -/
def execPop_AF (s : State) : Result := .next (opPop .af s)

/-- PUSH AF (R230). -/
def execPush_AF (s : State) : Result := .next (push16 (s.cpu.stackPair .af) s)

/-- LD SP,HL (R222). -/
def execLd_SP_HL (s : State) : Result := .next (opSetPair .sp s.cpu.hl s)

end Sys2Proof.Machine
end

