-- ==== Sys2Proof/Machine/Loads8.lean ====
section
/-! DEFINITION. The 8-bit loads and stores (40_loads.md R200 to R218): one meaning for each row of the opcode table. -/

namespace Sys2Proof.Machine

/-- LD (BC),A (R207). -/
def execLd_mBC_A (s : State) : Result := .next (opStoreA s.cpu.bc s)

/-- LD B,n (R201). -/
def execLd_B_n (n : Byte) (s : State) : Result := .next (writeOp8 .b n s)

/-- LD A,(BC) (R205). -/
def execLd_A_mBC (s : State) : Result := .next (opLoadA s.cpu.bc s)

/-- LD C,n (R201). -/
def execLd_C_n (n : Byte) (s : State) : Result := .next (writeOp8 .c n s)

/-- LD (DE),A (R208). -/
def execLd_mDE_A (s : State) : Result := .next (opStoreA s.cpu.de s)

/-- LD D,n (R201). -/
def execLd_D_n (n : Byte) (s : State) : Result := .next (writeOp8 .d n s)

/-- LD A,(DE) (R206). -/
def execLd_A_mDE (s : State) : Result := .next (opLoadA s.cpu.de s)

/-- LD E,n (R201). -/
def execLd_E_n (n : Byte) (s : State) : Result := .next (writeOp8 .e n s)

/-- LD (HL+),A (R215). -/
def execLd_mHLinc_A (s : State) : Result := .next (opMoveHl 1 (opStoreA s.cpu.hl s))

/-- LD H,n (R201). -/
def execLd_H_n (n : Byte) (s : State) : Result := .next (writeOp8 .h n s)

/-- LD A,(HL+) (R216). -/
def execLd_A_mHLinc (s : State) : Result := .next (opMoveHl 1 (opLoadA s.cpu.hl s))

/-- LD L,n (R201). -/
def execLd_L_n (n : Byte) (s : State) : Result := .next (writeOp8 .l n s)

/-- LD (HL-),A (R217). -/
def execLd_mHLdec_A (s : State) : Result := .next (opMoveHl (-1) (opStoreA s.cpu.hl s))

/-- LD (HL),n (R204). -/
def execLd_mHL_n (n : Byte) (s : State) : Result := .next (writeOp8 .mHL n s)

/-- LD A,(HL-) (R218). -/
def execLd_A_mHLdec (s : State) : Result := .next (opMoveHl (-1) (opLoadA s.cpu.hl s))

/-- LD A,n (R201). -/
def execLd_A_n (n : Byte) (s : State) : Result := .next (writeOp8 .a n s)

/-- LD B,B (R200). -/
def execLd_B_B (s : State) : Result := .next (opLoad .b .b s)

/-- LD B,C (R200). -/
def execLd_B_C (s : State) : Result := .next (opLoad .b .c s)

/-- LD B,D (R200). -/
def execLd_B_D (s : State) : Result := .next (opLoad .b .d s)

/-- LD B,E (R200). -/
def execLd_B_E (s : State) : Result := .next (opLoad .b .e s)

/-- LD B,H (R200). -/
def execLd_B_H (s : State) : Result := .next (opLoad .b .h s)

/-- LD B,L (R200). -/
def execLd_B_L (s : State) : Result := .next (opLoad .b .l s)

/-- LD B,(HL) (R202). -/
def execLd_B_mHL (s : State) : Result := .next (opLoad .b .mHL s)

/-- LD B,A (R200). -/
def execLd_B_A (s : State) : Result := .next (opLoad .b .a s)

/-- LD C,B (R200). -/
def execLd_C_B (s : State) : Result := .next (opLoad .c .b s)

/-- LD C,C (R200). -/
def execLd_C_C (s : State) : Result := .next (opLoad .c .c s)

/-- LD C,D (R200). -/
def execLd_C_D (s : State) : Result := .next (opLoad .c .d s)

/-- LD C,E (R200). -/
def execLd_C_E (s : State) : Result := .next (opLoad .c .e s)

/-- LD C,H (R200). -/
def execLd_C_H (s : State) : Result := .next (opLoad .c .h s)

/-- LD C,L (R200). -/
def execLd_C_L (s : State) : Result := .next (opLoad .c .l s)

/-- LD C,(HL) (R202). -/
def execLd_C_mHL (s : State) : Result := .next (opLoad .c .mHL s)

/-- LD C,A (R200). -/
def execLd_C_A (s : State) : Result := .next (opLoad .c .a s)

/-- LD D,B (R200). -/
def execLd_D_B (s : State) : Result := .next (opLoad .d .b s)

/-- LD D,C (R200). -/
def execLd_D_C (s : State) : Result := .next (opLoad .d .c s)

/-- LD D,D (R200). -/
def execLd_D_D (s : State) : Result := .next (opLoad .d .d s)

/-- LD D,E (R200). -/
def execLd_D_E (s : State) : Result := .next (opLoad .d .e s)

/-- LD D,H (R200). -/
def execLd_D_H (s : State) : Result := .next (opLoad .d .h s)

/-- LD D,L (R200). -/
def execLd_D_L (s : State) : Result := .next (opLoad .d .l s)

/-- LD D,(HL) (R202). -/
def execLd_D_mHL (s : State) : Result := .next (opLoad .d .mHL s)

/-- LD D,A (R200). -/
def execLd_D_A (s : State) : Result := .next (opLoad .d .a s)

/-- LD E,B (R200). -/
def execLd_E_B (s : State) : Result := .next (opLoad .e .b s)

/-- LD E,C (R200). -/
def execLd_E_C (s : State) : Result := .next (opLoad .e .c s)

/-- LD E,D (R200). -/
def execLd_E_D (s : State) : Result := .next (opLoad .e .d s)

/-- LD E,E (R200). -/
def execLd_E_E (s : State) : Result := .next (opLoad .e .e s)

/-- LD E,H (R200). -/
def execLd_E_H (s : State) : Result := .next (opLoad .e .h s)

/-- LD E,L (R200). -/
def execLd_E_L (s : State) : Result := .next (opLoad .e .l s)

/-- LD E,(HL) (R202). -/
def execLd_E_mHL (s : State) : Result := .next (opLoad .e .mHL s)

/-- LD E,A (R200). -/
def execLd_E_A (s : State) : Result := .next (opLoad .e .a s)

/-- LD H,B (R200). -/
def execLd_H_B (s : State) : Result := .next (opLoad .h .b s)

/-- LD H,C (R200). -/
def execLd_H_C (s : State) : Result := .next (opLoad .h .c s)

/-- LD H,D (R200). -/
def execLd_H_D (s : State) : Result := .next (opLoad .h .d s)

/-- LD H,E (R200). -/
def execLd_H_E (s : State) : Result := .next (opLoad .h .e s)

/-- LD H,H (R200). -/
def execLd_H_H (s : State) : Result := .next (opLoad .h .h s)

/-- LD H,L (R200). -/
def execLd_H_L (s : State) : Result := .next (opLoad .h .l s)

/-- LD H,(HL) (R202). -/
def execLd_H_mHL (s : State) : Result := .next (opLoad .h .mHL s)

/-- LD H,A (R200). -/
def execLd_H_A (s : State) : Result := .next (opLoad .h .a s)

/-- LD L,B (R200). -/
def execLd_L_B (s : State) : Result := .next (opLoad .l .b s)

/-- LD L,C (R200). -/
def execLd_L_C (s : State) : Result := .next (opLoad .l .c s)

/-- LD L,D (R200). -/
def execLd_L_D (s : State) : Result := .next (opLoad .l .d s)

/-- LD L,E (R200). -/
def execLd_L_E (s : State) : Result := .next (opLoad .l .e s)

/-- LD L,H (R200). -/
def execLd_L_H (s : State) : Result := .next (opLoad .l .h s)

/-- LD L,L (R200). -/
def execLd_L_L (s : State) : Result := .next (opLoad .l .l s)

/-- LD L,(HL) (R202). -/
def execLd_L_mHL (s : State) : Result := .next (opLoad .l .mHL s)

/-- LD L,A (R200). -/
def execLd_L_A (s : State) : Result := .next (opLoad .l .a s)

/-- LD (HL),B (R203). -/
def execLd_mHL_B (s : State) : Result := .next (opLoad .mHL .b s)

/-- LD (HL),C (R203). -/
def execLd_mHL_C (s : State) : Result := .next (opLoad .mHL .c s)

/-- LD (HL),D (R203). -/
def execLd_mHL_D (s : State) : Result := .next (opLoad .mHL .d s)

/-- LD (HL),E (R203). -/
def execLd_mHL_E (s : State) : Result := .next (opLoad .mHL .e s)

/-- LD (HL),H (R203). -/
def execLd_mHL_H (s : State) : Result := .next (opLoad .mHL .h s)

/-- LD (HL),L (R203). -/
def execLd_mHL_L (s : State) : Result := .next (opLoad .mHL .l s)

/-- LD (HL),A (R203). -/
def execLd_mHL_A (s : State) : Result := .next (opLoad .mHL .a s)

/-- LD A,B (R200). -/
def execLd_A_B (s : State) : Result := .next (opLoad .a .b s)

/-- LD A,C (R200). -/
def execLd_A_C (s : State) : Result := .next (opLoad .a .c s)

/-- LD A,D (R200). -/
def execLd_A_D (s : State) : Result := .next (opLoad .a .d s)

/-- LD A,E (R200). -/
def execLd_A_E (s : State) : Result := .next (opLoad .a .e s)

/-- LD A,H (R200). -/
def execLd_A_H (s : State) : Result := .next (opLoad .a .h s)

/-- LD A,L (R200). -/
def execLd_A_L (s : State) : Result := .next (opLoad .a .l s)

/-- LD A,(HL) (R202). -/
def execLd_A_mHL (s : State) : Result := .next (opLoad .a .mHL s)

/-- LD A,A (R200). -/
def execLd_A_A (s : State) : Result := .next (opLoad .a .a s)

/-- LDH (n),A (R212). -/
def execLdh_mn_A (n : Byte) (s : State) : Result := .next (opStoreA (ioAddress n) s)

/-- LD (C),A (R214). -/
def execLd_mC_A (s : State) : Result := .next (opStoreA (ioAddress s.cpu.c) s)

/-- LD (nn),A (R210). -/
def execLd_mnn_A (nn : Word16) (s : State) : Result := .next (opStoreA nn s)

/-- LDH A,(n) (R211). -/
def execLdh_A_mn (n : Byte) (s : State) : Result := .next (opLoadA (ioAddress n) s)

/-- LD A,(C) (R213). -/
def execLd_A_mC (s : State) : Result := .next (opLoadA (ioAddress s.cpu.c) s)

/-- LD A,(nn) (R209). -/
def execLd_A_mnn (nn : Word16) (s : State) : Result := .next (opLoadA nn s)

end Sys2Proof.Machine
end

