-- ==== Sys2Proof/Machine/Shifts.lean ====
section
/-! DEFINITION. Rotates and shifts (43_rotate_shift_bit.md R320 to R332): one meaning for each row of the opcode table. -/

namespace Sys2Proof.Machine

/-- RLCA (R320). -/
def execRlca (s : State) : Result := .next (opRotateA aluRlc s)

/-- RRCA (R321). -/
def execRrca (s : State) : Result := .next (opRotateA aluRrc s)

/-- RLA (R322). -/
def execRla (s : State) : Result := .next (opRotateA (fun v => aluRl v s.cpu.cf) s)

/-- RRA (R323). -/
def execRra (s : State) : Result := .next (opRotateA (fun v => aluRr v s.cpu.cf) s)

/-- RLC B (R325). -/
def execRlc_B (s : State) : Result := .next (opModify .b aluRlc s)

/-- RLC C (R325). -/
def execRlc_C (s : State) : Result := .next (opModify .c aluRlc s)

/-- RLC D (R325). -/
def execRlc_D (s : State) : Result := .next (opModify .d aluRlc s)

/-- RLC E (R325). -/
def execRlc_E (s : State) : Result := .next (opModify .e aluRlc s)

/-- RLC H (R325). -/
def execRlc_H (s : State) : Result := .next (opModify .h aluRlc s)

/-- RLC L (R325). -/
def execRlc_L (s : State) : Result := .next (opModify .l aluRlc s)

/-- RLC (HL) (R325). -/
def execRlc_mHL (s : State) : Result := .next (opModify .mHL aluRlc s)

/-- RLC A (R325). -/
def execRlc_A (s : State) : Result := .next (opModify .a aluRlc s)

/-- RRC B (R326). -/
def execRrc_B (s : State) : Result := .next (opModify .b aluRrc s)

/-- RRC C (R326). -/
def execRrc_C (s : State) : Result := .next (opModify .c aluRrc s)

/-- RRC D (R326). -/
def execRrc_D (s : State) : Result := .next (opModify .d aluRrc s)

/-- RRC E (R326). -/
def execRrc_E (s : State) : Result := .next (opModify .e aluRrc s)

/-- RRC H (R326). -/
def execRrc_H (s : State) : Result := .next (opModify .h aluRrc s)

/-- RRC L (R326). -/
def execRrc_L (s : State) : Result := .next (opModify .l aluRrc s)

/-- RRC (HL) (R326). -/
def execRrc_mHL (s : State) : Result := .next (opModify .mHL aluRrc s)

/-- RRC A (R326). -/
def execRrc_A (s : State) : Result := .next (opModify .a aluRrc s)

/-- RL B (R327). -/
def execRl_B (s : State) : Result := .next (opModify .b (fun v => aluRl v s.cpu.cf) s)

/-- RL C (R327). -/
def execRl_C (s : State) : Result := .next (opModify .c (fun v => aluRl v s.cpu.cf) s)

/-- RL D (R327). -/
def execRl_D (s : State) : Result := .next (opModify .d (fun v => aluRl v s.cpu.cf) s)

/-- RL E (R327). -/
def execRl_E (s : State) : Result := .next (opModify .e (fun v => aluRl v s.cpu.cf) s)

/-- RL H (R327). -/
def execRl_H (s : State) : Result := .next (opModify .h (fun v => aluRl v s.cpu.cf) s)

/-- RL L (R327). -/
def execRl_L (s : State) : Result := .next (opModify .l (fun v => aluRl v s.cpu.cf) s)

/-- RL (HL) (R327). -/
def execRl_mHL (s : State) : Result := .next (opModify .mHL (fun v => aluRl v s.cpu.cf) s)

/-- RL A (R327). -/
def execRl_A (s : State) : Result := .next (opModify .a (fun v => aluRl v s.cpu.cf) s)

/-- RR B (R328). -/
def execRr_B (s : State) : Result := .next (opModify .b (fun v => aluRr v s.cpu.cf) s)

/-- RR C (R328). -/
def execRr_C (s : State) : Result := .next (opModify .c (fun v => aluRr v s.cpu.cf) s)

/-- RR D (R328). -/
def execRr_D (s : State) : Result := .next (opModify .d (fun v => aluRr v s.cpu.cf) s)

/-- RR E (R328). -/
def execRr_E (s : State) : Result := .next (opModify .e (fun v => aluRr v s.cpu.cf) s)

/-- RR H (R328). -/
def execRr_H (s : State) : Result := .next (opModify .h (fun v => aluRr v s.cpu.cf) s)

/-- RR L (R328). -/
def execRr_L (s : State) : Result := .next (opModify .l (fun v => aluRr v s.cpu.cf) s)

/-- RR (HL) (R328). -/
def execRr_mHL (s : State) : Result := .next (opModify .mHL (fun v => aluRr v s.cpu.cf) s)

/-- RR A (R328). -/
def execRr_A (s : State) : Result := .next (opModify .a (fun v => aluRr v s.cpu.cf) s)

/-- SLA B (R329). -/
def execSla_B (s : State) : Result := .next (opModify .b aluSla s)

/-- SLA C (R329). -/
def execSla_C (s : State) : Result := .next (opModify .c aluSla s)

/-- SLA D (R329). -/
def execSla_D (s : State) : Result := .next (opModify .d aluSla s)

/-- SLA E (R329). -/
def execSla_E (s : State) : Result := .next (opModify .e aluSla s)

/-- SLA H (R329). -/
def execSla_H (s : State) : Result := .next (opModify .h aluSla s)

/-- SLA L (R329). -/
def execSla_L (s : State) : Result := .next (opModify .l aluSla s)

/-- SLA (HL) (R329). -/
def execSla_mHL (s : State) : Result := .next (opModify .mHL aluSla s)

/-- SLA A (R329). -/
def execSla_A (s : State) : Result := .next (opModify .a aluSla s)

/-- SRA B (R330). -/
def execSra_B (s : State) : Result := .next (opModify .b aluSra s)

/-- SRA C (R330). -/
def execSra_C (s : State) : Result := .next (opModify .c aluSra s)

/-- SRA D (R330). -/
def execSra_D (s : State) : Result := .next (opModify .d aluSra s)

/-- SRA E (R330). -/
def execSra_E (s : State) : Result := .next (opModify .e aluSra s)

/-- SRA H (R330). -/
def execSra_H (s : State) : Result := .next (opModify .h aluSra s)

/-- SRA L (R330). -/
def execSra_L (s : State) : Result := .next (opModify .l aluSra s)

/-- SRA (HL) (R330). -/
def execSra_mHL (s : State) : Result := .next (opModify .mHL aluSra s)

/-- SRA A (R330). -/
def execSra_A (s : State) : Result := .next (opModify .a aluSra s)

/-- SWAP B (R331). -/
def execSwap_B (s : State) : Result := .next (opModify .b aluSwap s)

/-- SWAP C (R331). -/
def execSwap_C (s : State) : Result := .next (opModify .c aluSwap s)

/-- SWAP D (R331). -/
def execSwap_D (s : State) : Result := .next (opModify .d aluSwap s)

/-- SWAP E (R331). -/
def execSwap_E (s : State) : Result := .next (opModify .e aluSwap s)

/-- SWAP H (R331). -/
def execSwap_H (s : State) : Result := .next (opModify .h aluSwap s)

/-- SWAP L (R331). -/
def execSwap_L (s : State) : Result := .next (opModify .l aluSwap s)

/-- SWAP (HL) (R331). -/
def execSwap_mHL (s : State) : Result := .next (opModify .mHL aluSwap s)

/-- SWAP A (R331). -/
def execSwap_A (s : State) : Result := .next (opModify .a aluSwap s)

/-- SRL B (R332). -/
def execSrl_B (s : State) : Result := .next (opModify .b aluSrl s)

/-- SRL C (R332). -/
def execSrl_C (s : State) : Result := .next (opModify .c aluSrl s)

/-- SRL D (R332). -/
def execSrl_D (s : State) : Result := .next (opModify .d aluSrl s)

/-- SRL E (R332). -/
def execSrl_E (s : State) : Result := .next (opModify .e aluSrl s)

/-- SRL H (R332). -/
def execSrl_H (s : State) : Result := .next (opModify .h aluSrl s)

/-- SRL L (R332). -/
def execSrl_L (s : State) : Result := .next (opModify .l aluSrl s)

/-- SRL (HL) (R332). -/
def execSrl_mHL (s : State) : Result := .next (opModify .mHL aluSrl s)

/-- SRL A (R332). -/
def execSrl_A (s : State) : Result := .next (opModify .a aluSrl s)

end Sys2Proof.Machine
end

