-- ==== Sys2Proof/Machine/System.lean ====
section
/-! DEFINITION. NOP, HALT, STOP, DI, EI and the invalid opcodes (45_system.md R400 to R426): one meaning for each row of the opcode table. -/

namespace Sys2Proof.Machine

/-- What HALT does (R401): an EI just before it counts as enabled; with IME = 0 and an interrupt pending the CPU is not suspended and
the next opcode fetch does not advance PC. -/
def opHalt (s : State) : State :=
  if s.cpu.ime || s.cpu.eiPending then s.mapCpu (fun c => { c with halt := true, haltDI := false })
  else if pendingEnabled s ≠ 0 then s.mapCpu (fun c => { c with haltBug := true })
  else s.mapCpu (fun c => { c with halt := true, haltDI := true })

/-- NOP (R400). -/
def execNop (s : State) : Result := .next s

/-- STOP (R402). -/
def execStop (_ : Byte) (s : State) : Result := .next (s.mapCpu (fun c => { c with stopped := true }))

/-- HALT (R401). -/
def execHalt (s : State) : Result := .next (opHalt s)

/-- Invalid opcode 0xD3: the CPU locks up (R426). -/
def execInvalid_D3 (s : State) : Result := lockUp 0xD3 s

/-- Invalid opcode 0xDB: the CPU locks up (R426). -/
def execInvalid_DB (s : State) : Result := lockUp 0xDB s

/-- Invalid opcode 0xDD: the CPU locks up (R426). -/
def execInvalid_DD (s : State) : Result := lockUp 0xDD s

/-- Invalid opcode 0xE3: the CPU locks up (R426). -/
def execInvalid_E3 (s : State) : Result := lockUp 0xE3 s

/-- Invalid opcode 0xE4: the CPU locks up (R426). -/
def execInvalid_E4 (s : State) : Result := lockUp 0xE4 s

/-- Invalid opcode 0xEB: the CPU locks up (R426). -/
def execInvalid_EB (s : State) : Result := lockUp 0xEB s

/-- Invalid opcode 0xEC: the CPU locks up (R426). -/
def execInvalid_EC (s : State) : Result := lockUp 0xEC s

/-- Invalid opcode 0xED: the CPU locks up (R426). -/
def execInvalid_ED (s : State) : Result := lockUp 0xED s

/-- DI (R403). -/
def execDi (s : State) : Result := .next (s.mapCpu (fun c => { c with ime := false, enableNext := false, eiPending := false }))

/-- Invalid opcode 0xF4: the CPU locks up (R426). -/
def execInvalid_F4 (s : State) : Result := lockUp 0xF4 s

/-- EI (R404). -/
def execEi (s : State) : Result := .next (s.mapCpu (fun c => { c with enableNext := true }))

/-- Invalid opcode 0xFC: the CPU locks up (R426). -/
def execInvalid_FC (s : State) : Result := lockUp 0xFC s

/-- Invalid opcode 0xFD: the CPU locks up (R426). -/
def execInvalid_FD (s : State) : Result := lockUp 0xFD s

end Sys2Proof.Machine
end

