-- ==== Sys2Proof/Machine/Fetch.lean ====
section
/-! DEFINITION. Fetching an instruction (00_scope.md R16, 10_state.md R35, R41, 30_encoding.md R180, 45_system.md R404), and placing bytes
where the fetch finds them. -/

namespace Sys2Proof.Machine

/-- The address after the opcode byte: the HALT bug does not advance PC (R41). -/
def afterOpcode (s : State) : Word16 := if s.cpu.haltBug then s.cpu.pc else s.cpu.pc + 1

/-- The instruction at PC and its length. A read has no side effect (R102), so reading three bytes for a shorter instruction is the same
as reading only its own. -/
def fetched (s : State) : Instr × Nat :=
  decodeBytes (busRead s.cpu.pc s) (busRead (afterOpcode s) s) (busRead (afterOpcode s + 1) s)

/-- The state in which the fetched instruction's rule runs: PC past its bytes (R35), the HALT bug spent (R41), the EI latch taken (R404). -/
def afterFetch (s : State) : State :=
  s.mapCpu (fun c =>
    { c with
      pc := afterOpcode s + BitVec.ofNat 16 ((fetched s).2 - 1)
      haltBug := false
      eiPending := c.enableNext
      enableNext := false })

/-- A region whose bytes a fetch can find and `poke` can place: ROM, work RAM, high RAM. -/
def Region.holdsCode (r : Region) : Bool :=
  match r with
  | .rom0 | .romN | .wram0 | .wramN | .echo | .hram => true
  | .vram | .eram | .oam | .unused | .io | .apu | .wave => false

/-- Place a byte in the memory that an address of such a region reads from, the image included: loading a program, not a bus write. -/
def poke (addr : Word16) (v : Byte) (s : State) : State :=
  match region addr with
  | .rom0 => { s with cart.rom := s.cart.rom.write addr.toNat v }
  | .romN => { s with cart.rom := s.cart.rom.write (romIndex addr s) v }
  | .wram0 | .wramN => { s with wram := s.wram.write (addr.toNat - 0xC000) v }
  | .echo => { s with wram := s.wram.write (addr.toNat - 0xE000) v }
  | .hram => { s with hram := s.hram.write (addr.toNat - 0xFF80) v }
  | .vram | .eram | .oam | .unused | .io | .apu | .wave => s

/-- Place bytes from an address on. -/
def pokeBytes (addr : Word16) (bytes : List Byte) (s : State) : State :=
  match bytes with
  | [] => s
  | v :: rest => pokeBytes (addr + 1) rest (poke addr v s)

/-- Every one of the three bytes from an address on lies in a region that holds code. -/
def holdsCodeAt (addr : Word16) : Bool :=
  (region addr).holdsCode && (region (addr + 1)).holdsCode && (region (addr + 2)).holdsCode

/-- Every one of the three bytes from an address on passes the DMA gate (R104). -/
def dmaAllowsAt (addr : Word16) (s : State) : Bool :=
  dmaAllows (region addr) s && dmaAllows (region (addr + 1)) s && dmaAllows (region (addr + 2)) s

/-- Make the next step fetch an instruction: nothing suspends the CPU, no HALT bug, PC where code can be placed (else at 0xC000), no
transfer that gates the fetch. -/
def readyToFetch (s : State) : State :=
  let s := s.mapCpu (fun c =>
    { c with
      halt := false, haltDI := false, stopped := false, haltBug := false, locked := none
      pc := if holdsCodeAt c.pc then c.pc else 0xC000 })
  if dmaAllowsAt s.cpu.pc s then s else { s with dma.active := false }

end Sys2Proof.Machine
end

