-- ==== Sys2Proof/Machine/Scheduler.lean ====
section
/-! DEFINITION. The scheduler: `update_cycles`, the interrupt check and one step (66_scheduler_host.md R690 to R693, 60_exceptions.md R440). -/

namespace Sys2Proof.Machine

/-- `update_cycles(n)`: DMA, PPU, timer, APU, in that order, then the counter (R692). -/
def updateCycles (n : Nat) (s : State) : State :=
  let s := apuUpdate n (timerUpdate n (ppuUpdate n (dmaUpdate n s)))
  { s with cycles := s.cycles + n }

/-- Leave HALT without service: `halt <- 0; halt_DI <- 0` (R440). -/
def wake (s : State) : State := s.mapCpu (fun c => { c with halt := false, haltDI := false })

/-- `InterruptCheck()` (R440); a dispatch costs 20 cycles (R441). -/
def interruptCheck (s : State) : State :=
  if s.cpu.locked.isSome || s.cpu.stopped then s
  else if pendingEnabled s = 0 then s
  else if s.cpu.ime then updateCycles 20 (takeInterrupt (lowestSet (pendingEnabled s)) s)
  else if s.cpu.halt then wake s
  else s

/-- The end of R404: after the instruction, a pending EI sets IME. DI has cleared the latch (R403). -/
def settleEi (s : State) : State :=
  if s.cpu.eiPending then s.mapCpu (fun c => { c with ime := true, eiPending := false }) else s

/-- What a step does around an instruction's meaning: the EI delay, the devices' cycles, the interrupt check (R404, R690). A Locked fault
ends the step before any device advances. -/
def runInstr (i : Instr) (s : State) : Result :=
  match exec i s with
  | .next t => .next (interruptCheck (updateCycles (cost i s) (settleEi t)))
  | .fault f => .fault f
  | .refused r => .refused r

/-- `ExecuteInstruction()` with the rest of the step (R690). -/
def fetchAndRun (s : State) : Result := runInstr (fetched s).1 (afterFetch s)

/-- `Step()` (R690). -/
def runStep (s : State) : Result :=
  match s.cpu.locked with
  | some op => .fault (.locked op)
  | none =>
    if s.cpu.stopped then .next (updateCycles 4 s)
    else if s.cpu.halt then .next (interruptCheck (updateCycles 4 s))
    else fetchAndRun s

end Sys2Proof.Machine
end

