-- ==== Sys2Proof/Machine/Step.lean ====
section
/-! DEFINITION. One step of the machine, and an instruction placed where the next step fetches it. -/

namespace Sys2Proof.Machine

/-- One step (R690). -/
def step (s : State) : Host.Outcome State Fault Refusal := runStep s

/-- The state with an instruction word of the opcode table placed where the next step fetches (log 3). -/
def State.withFetchWord (s : State) (nbits w : Nat) : State :=
  let s := readyToFetch s
  pokeBytes s.cpu.pc (tableBytes nbits w) s

end Sys2Proof.Machine
end

