-- ==== Sys2Proof/Machine/HostInterface.lean ====
section
/-! DEFINITION. What the host does between steps (66_scheduler_host.md R694 to R699): run until an event, read the sample ring, remove
samples. Key changes are `setKeys` in Machine/Joypad.lean, creation is `create` in Machine/Cartridge.lean. -/

namespace Sys2Proof.Machine

/-- The sample ring in the order of the source: oldest pair first (R694, log 9). -/
def sampleRing (s : State) : List Sample := s.samples.reverse

/-- The host removes pairs from the front of the ring (R696). -/
def removeSamples (k : Nat) (s : State) : State := { s with samples := s.samples.take (s.samples.length - k) }

/-- The bit mask of the events: NEW_FRAME 0x1, SOUND_BUFFER_FULL 0x2 (R91, R695). -/
def Events.mask (e : Events) : Nat := e.newFrame.toNat + 2 * e.soundBufferFull.toNat

/-- The events that hold after a step (R695). -/
def eventsNow (maxSamples : Nat) (s : State) : Events :=
  { newFrame := s.ppu.newFrameEdge, soundBufferFull := decide (maxSamples ≤ s.samples.length) }

/-- How a call of `run_until_event` ends. -/
inductive CallEnd where
  /-- The call returns; the events are in the state. -/
  | returned (s : State)
  /-- A Locked fault ends the call; the state is the locked machine (R426). -/
  | locked (s : State)
  /-- The step refused an instruction; no arm of `exec` does. -/
  | refused (r : Refusal)
  /-- No event within the given number of steps (log 11). -/
  | outOfFuel (s : State)
  deriving DecidableEq, Repr

/-- The loop of R695, for at most `fuel` steps. -/
def runLoop (fuel maxSamples : Nat) (s : State) : CallEnd :=
  match fuel with
  | 0 => .outOfFuel s
  | k + 1 =>
    match runStep s with
    | .fault (.locked op) => .locked (lockedState op s)
    | .refused r => .refused r
    | .next t =>
      let e := eventsNow maxSamples t
      if e.newFrame || e.soundBufferFull then .returned { t with events := e } else runLoop k maxSamples t

/-- `run_until_event(m)` (R695): the edge waited for is cleared on entry, and the state's events too. -/
def runUntilEvent (fuel maxSamples : Nat) (s : State) : CallEnd :=
  runLoop fuel maxSamples { s with ppu.newFrameEdge := false, events := ⟨false, false⟩ }

end Sys2Proof.Machine
end

