-- ==== Sys2Proof/Safety.lean ====
section
/-! DEFINITION. The invariants of the machine, the byte of memory behind an address, and what counts as a safe run. -/

namespace Sys2Proof.Machine

/-! ### Invariants -/

/-- What holds of the CPU between steps: F's low four bits are 0 (R32), no EI latch is left (R404), and `halt_DI` is the mark of a
HALT entered with IME = 0 (R39, R401). -/
structure CpuOk (c : Cpu) : Prop where
  flagsLow : c.f &&& 0x0F = 0
  noLatch : c.eiPending = false
  haltDI : c.haltDI = (c.halt && !c.ime)

/-- A memory in canonical form with every listed index inside its size. -/
structure FitsIn (m : Memory) (size : Nat) : Prop where
  canonical : m.wf
  bounded : m.below size

/-- Every memory of the machine is canonical and inside its region's size (R10, R67, R78, R79, R89). -/
structure MemoriesOk (s : State) : Prop where
  vram : FitsIn s.vram 0x2000
  wram : FitsIn s.wram 0x2000
  hram : FitsIn s.hram 127
  oam : FitsIn s.oam 160
  eram : FitsIn s.eram s.cart.extRamSize
  waveRam : FitsIn s.apu.ch3.ram 16
  rom : FitsIn s.cart.rom s.cart.romSize

/-- What R151 to R154 make sure of at creation. -/
structure CartOk (c : Cartridge) : Prop where
  mbc2Size : c.kind = .mbc2 → c.extRamSize = 512
  romMin : 0x8000 ≤ c.romSize
  romBanks : c.romSize % 0x4000 = 0

/-- The mode that belongs to a line and a cycle of it while the display is on (R550). -/
def modeAt (ly lineCycle : Nat) : PpuMode :=
  if 144 ≤ ly then .vBlank
  else if lineCycle < 80 then .oamScan
  else if lineCycle < 252 then .transfer
  else .hBlank

/-- The PPU between cycles (R550), the display-off form (R535) and the framebuffer's size (R90). -/
structure PpuOk (s : State) : Prop where
  lineCycle : s.ppu.lineCycle < 456
  ly : s.ppu.ly.toNat < 154
  fakeLy : s.ppu.fakeLy < 154
  modeOn : s.ppu.displayOn = true → s.ppu.mode = modeAt s.ppu.ly.toNat s.ppu.lineCycle
  modeOff : s.ppu.displayOn = false → s.ppu.mode = .vBlank ∧ s.ppu.ly = 0
  rows : s.framebuffer.length = 144
  columns : ∀ row ∈ s.framebuffer, row.length = 160

/-- The DMA engine's counters (R500, R502). -/
structure DmaOk (d : Dma) : Prop where
  cycles : d.cycles ≤ 648
  offset : d.offset = min (d.cycles / 4) 160
  active : d.active = true → d.cycles < 648

/-- A channel's status needs its DAC and the APU's power (R620, R650). -/
def statusOk (powered status dac : Bool) : Prop := status = true → dac = true ∧ powered = true

/-- A running channel's counter is positive and even, so that steps of 2 reach 0 exactly (R590). -/
def counterOk (status : Bool) (counter : Int) : Prop := status = true → 0 < counter ∧ counter % 2 = 0

/-- The APU between ticks: status, length counters, channel counters, sweep timer, frame sequencer (R80 to R85, R590, R650). -/
structure ApuOk (p : Apu) : Prop where
  status1 : statusOk p.powered p.ch1.status p.ch1.dacEnabled
  status2 : statusOk p.powered p.ch2.status p.ch2.dacEnabled
  status3 : statusOk p.powered p.ch3.status p.ch3.dacEnabled
  status4 : statusOk p.powered p.ch4.status p.ch4.dacEnabled
  length1 : p.ch1.length ≤ 64
  length2 : p.ch2.length ≤ 64
  length3 : p.ch3.length ≤ 256
  length4 : p.ch4.length ≤ 64
  counter1 : counterOk p.ch1.status p.ch1.counter
  counter2 : counterOk p.ch2.status p.ch2.counter
  counter3 : counterOk p.ch3.status p.ch3.counter
  counter4 : counterOk p.ch4.status p.ch4.counter
  sweepTimer : 0 < p.sweep.timer
  sequencer : p.fsCounter < 8192 ∧ p.fsCounter % 2 = 0

/-- The mapper registers hold what their mapper can put there (R134, R139, R140, R142). -/
def MapperOk (kind : MapperKind) (m : Mapper) : Prop :=
  match kind with
  | .mbc0 => m.romBank = 1 ∧ m.extRamBank = 0
  | .mbc1 => m.mbc1Recompute = m
  | .mbc2 => m.romBank.toNat < 16 ∧ m.extRamBank = 0
  | .mbc3 => m.romBank ≠ 0

/-! ### The byte behind an address -/

/-- The memories an address can reach for writing. -/
inductive Bank where
  | vram | wram | hram | oam | eram
  deriving DecidableEq, Repr

/-- The memory and index that an address names, for the regions that hold plain bytes: VRAM, work RAM with its echo, OAM, high RAM, and
external RAM where it is enabled and present (R101, R107, R132, R141). -/
def cellOf (addr : Word16) (s : State) : Option (Bank × Nat) :=
  match region addr with
  | .vram => some (.vram, addr.toNat - 0x8000)
  | .wram0 | .wramN => some (.wram, addr.toNat - 0xC000)
  | .echo => some (.wram, addr.toNat - 0xE000)
  | .oam => some (.oam, addr.toNat - 0xFE00)
  | .hram => some (.hram, addr.toNat - 0xFF80)
  | .eram =>
    if s.mapper.extRamEnabled && (decide (s.cart.kind = .mbc2) || decide (eramIndex addr s < s.cart.extRamSize)) then
      some (.eram, eramIndex addr s)
    else none
  | .rom0 | .romN | .unused | .io | .apu | .wave => none

/-- The CPU can reach an address now: no DMA gate (R104) and no PPU gate (R105, R106). -/
def reachable (addr : Word16) (s : State) : Bool :=
  dmaAllows (region addr) s && !(region addr == .vram && s.ppu.locksVram) && !(region addr == .oam && s.ppu.locksOam)

/-! ### Safe runs -/

/-- The CPU executes instructions: it is neither halted, stopped nor locked (R464). -/
def Running (s : State) : Prop := s.cpu.halt = false ∧ s.cpu.stopped = false ∧ s.cpu.locked = none

/-- The bytes that lock the CPU up in the opcode position (R183). -/
def invalidOpcodes : List Byte := [0xD3, 0xDB, 0xDD, 0xE3, 0xE4, 0xEB, 0xEC, 0xED, 0xF4, 0xFC, 0xFD]

/-- A run of n steps from a state never locks up: it ends in a next state. -/
def SafeFor (n : Nat) (s : State) : Prop := ∃ t, Sys2Proof.core.run n s = .next t

end Sys2Proof.Machine
end

