-- ==== Sys2Proof/Certificates/Slice0/Obligations.lean ====
section
/-! DEFINITION. The statements for the provers, and the tables of instructions, encodings and costs they speak of. -/

namespace Sys2Proof.Machine.Claims

/-- An instruction with its encoding, its cost and what a statement says about it. -/
structure Row (α : Type) where
  instr : Instr
  bytes : List Byte
  cycles : Nat
  arg : α

/-- The encoding is the instruction's, both ways, and the cost is its cost on every state. -/
def Row.Encoded {α : Type} (r : Row α) : Prop :=
  encode r.instr = r.bytes ∧ decode r.bytes = .ok (r.instr, []) ∧ ∀ s, cost r.instr s = r.cycles

/-- A conditional instruction with its encoding, its cost without and with the condition, and its condition. -/
structure CondRow where
  instr : Instr
  bytes : List Byte
  cycles : Nat
  taken : Nat
  cc : Cond

/-- `Cond(cc)` as R370 writes it. -/
def Holds (cc : Cond) (c : Cpu) : Prop :=
  match cc with
  | .nz => c.zf = false
  | .z => c.zf = true
  | .nc => c.cf = false
  | .c => c.cf = true

/-- The encoding is the instruction's, both ways, and the cost is the taken or the not-taken one (R182, R370). -/
def CondRow.Encoded (r : CondRow) : Prop :=
  encode r.instr = r.bytes ∧ decode r.bytes = .ok (r.instr, []) ∧
    ∀ s, (Holds r.cc s.cpu → cost r.instr s = r.taken) ∧ (¬Holds r.cc s.cpu → cost r.instr s = r.cycles)

/-- F as a number: Z, N, H, C in bits 7, 6, 5, 4, the rest 0 (R32, R33). -/
def flagsOf (z n h c : Bool) : Byte := BitVec.ofNat 8 (128 * z.toNat + 64 * n.toNat + 32 * h.toNat + 16 * c.toNat)

/-- A register operand's value. -/
def inReg (r : Reg8) (s : State) : Byte := s.cpu.reg r

/-- The `(HL)` operand's value: the byte at H:L. -/
def atHl (s : State) : Byte := busRead (s.cpu.h ++ s.cpu.l) s

/-- The state with A and F replaced. -/
def withAF (a f : Byte) (s : State) : State := { s with cpu := { s.cpu with a := a, f := f } }

/-- The state with F replaced. -/
def withF (f : Byte) (s : State) : State := { s with cpu := { s.cpu with f := f } }

/-- The state after `Push16(v)`: the high byte stored at SP-1, then the low byte at SP-2, SP moved down by two (R229). -/
def pushed (v : Word16) (s : State) : State :=
  { busWrite (s.cpu.sp - 2) (lowByte v) (busWrite (s.cpu.sp - 1) (highByte v) s) with cpu := { s.cpu with sp := s.cpu.sp - 2 } }

/-- The DMA gate is open for an address: no transfer, or high RAM, or a transfer from VRAM and an address in neither VRAM nor OAM (R104). -/
def GateOpen (a : Word16) (s : State) : Prop :=
  s.dma.active = false ∨ (0xFF80 ≤ a.toNat ∧ a.toNat ≤ 0xFFFE) ∨
    ((0x8000 ≤ s.dma.source.toNat ∧ s.dma.source.toNat < 0xA000) ∧ ¬(0x8000 ≤ a.toNat ∧ a.toNat < 0xA000) ∧
      ¬(0xFE00 ≤ a.toNat ∧ a.toNat < 0xFEA0))

/-! ### Tables of instructions: instruction, bytes, cycles, and the operand or operands a statement needs -/

/-- LD B,r (R200): the source. -/
def loadRowsB : List (Row (Reg8 × Reg8)) :=
  [⟨.ld_B_B, [0x40], 4, (.b, .b)⟩, ⟨.ld_B_C, [0x41], 4, (.b, .c)⟩, ⟨.ld_B_D, [0x42], 4, (.b, .d)⟩,
   ⟨.ld_B_E, [0x43], 4, (.b, .e)⟩, ⟨.ld_B_H, [0x44], 4, (.b, .h)⟩, ⟨.ld_B_L, [0x45], 4, (.b, .l)⟩,
   ⟨.ld_B_A, [0x47], 4, (.b, .a)⟩]

/-- LD C,r (R200): the source. -/
def loadRowsC : List (Row (Reg8 × Reg8)) :=
  [⟨.ld_C_B, [0x48], 4, (.c, .b)⟩, ⟨.ld_C_C, [0x49], 4, (.c, .c)⟩, ⟨.ld_C_D, [0x4A], 4, (.c, .d)⟩,
   ⟨.ld_C_E, [0x4B], 4, (.c, .e)⟩, ⟨.ld_C_H, [0x4C], 4, (.c, .h)⟩, ⟨.ld_C_L, [0x4D], 4, (.c, .l)⟩,
   ⟨.ld_C_A, [0x4F], 4, (.c, .a)⟩]

/-- LD D,r (R200): the source. -/
def loadRowsD : List (Row (Reg8 × Reg8)) :=
  [⟨.ld_D_B, [0x50], 4, (.d, .b)⟩, ⟨.ld_D_C, [0x51], 4, (.d, .c)⟩, ⟨.ld_D_D, [0x52], 4, (.d, .d)⟩,
   ⟨.ld_D_E, [0x53], 4, (.d, .e)⟩, ⟨.ld_D_H, [0x54], 4, (.d, .h)⟩, ⟨.ld_D_L, [0x55], 4, (.d, .l)⟩,
   ⟨.ld_D_A, [0x57], 4, (.d, .a)⟩]

/-- LD E,r (R200): the source. -/
def loadRowsE : List (Row (Reg8 × Reg8)) :=
  [⟨.ld_E_B, [0x58], 4, (.e, .b)⟩, ⟨.ld_E_C, [0x59], 4, (.e, .c)⟩, ⟨.ld_E_D, [0x5A], 4, (.e, .d)⟩,
   ⟨.ld_E_E, [0x5B], 4, (.e, .e)⟩, ⟨.ld_E_H, [0x5C], 4, (.e, .h)⟩, ⟨.ld_E_L, [0x5D], 4, (.e, .l)⟩,
   ⟨.ld_E_A, [0x5F], 4, (.e, .a)⟩]

/-- LD H,r (R200): the source. -/
def loadRowsH : List (Row (Reg8 × Reg8)) :=
  [⟨.ld_H_B, [0x60], 4, (.h, .b)⟩, ⟨.ld_H_C, [0x61], 4, (.h, .c)⟩, ⟨.ld_H_D, [0x62], 4, (.h, .d)⟩,
   ⟨.ld_H_E, [0x63], 4, (.h, .e)⟩, ⟨.ld_H_H, [0x64], 4, (.h, .h)⟩, ⟨.ld_H_L, [0x65], 4, (.h, .l)⟩,
   ⟨.ld_H_A, [0x67], 4, (.h, .a)⟩]

/-- LD L,r (R200): the source. -/
def loadRowsL : List (Row (Reg8 × Reg8)) :=
  [⟨.ld_L_B, [0x68], 4, (.l, .b)⟩, ⟨.ld_L_C, [0x69], 4, (.l, .c)⟩, ⟨.ld_L_D, [0x6A], 4, (.l, .d)⟩,
   ⟨.ld_L_E, [0x6B], 4, (.l, .e)⟩, ⟨.ld_L_H, [0x6C], 4, (.l, .h)⟩, ⟨.ld_L_L, [0x6D], 4, (.l, .l)⟩,
   ⟨.ld_L_A, [0x6F], 4, (.l, .a)⟩]

/-- LD A,r (R200): the source. -/
def loadRowsA : List (Row (Reg8 × Reg8)) :=
  [⟨.ld_A_B, [0x78], 4, (.a, .b)⟩, ⟨.ld_A_C, [0x79], 4, (.a, .c)⟩, ⟨.ld_A_D, [0x7A], 4, (.a, .d)⟩,
   ⟨.ld_A_E, [0x7B], 4, (.a, .e)⟩, ⟨.ld_A_H, [0x7C], 4, (.a, .h)⟩, ⟨.ld_A_L, [0x7D], 4, (.a, .l)⟩,
   ⟨.ld_A_A, [0x7F], 4, (.a, .a)⟩]

/-- LD r,n (R201): the destination. -/
def loadImmediateRows (n : Byte) : List (Row (Reg8)) :=
  [⟨.ld_B_n n, [0x06, n], 8, .b⟩, ⟨.ld_C_n n, [0x0E, n], 8, .c⟩, ⟨.ld_D_n n, [0x16, n], 8, .d⟩,
   ⟨.ld_E_n n, [0x1E, n], 8, .e⟩, ⟨.ld_H_n n, [0x26, n], 8, .h⟩, ⟨.ld_L_n n, [0x2E, n], 8, .l⟩,
   ⟨.ld_A_n n, [0x3E, n], 8, .a⟩]

/-- LD r,(HL) (R202): the destination. -/
def loadHlRows : List (Row (Reg8)) :=
  [⟨.ld_B_mHL, [0x46], 8, .b⟩, ⟨.ld_C_mHL, [0x4E], 8, .c⟩, ⟨.ld_D_mHL, [0x56], 8, .d⟩,
   ⟨.ld_E_mHL, [0x5E], 8, .e⟩, ⟨.ld_H_mHL, [0x66], 8, .h⟩, ⟨.ld_L_mHL, [0x6E], 8, .l⟩,
   ⟨.ld_A_mHL, [0x7E], 8, .a⟩]

/-- LD (HL),r and LD (HL),n (R203, R204): the byte stored. -/
def storeHlRows (n : Byte) : List (Row (State → Byte)) :=
  [⟨.ld_mHL_B, [0x70], 8, inReg .b⟩, ⟨.ld_mHL_C, [0x71], 8, inReg .c⟩, ⟨.ld_mHL_D, [0x72], 8, inReg .d⟩,
   ⟨.ld_mHL_E, [0x73], 8, inReg .e⟩, ⟨.ld_mHL_H, [0x74], 8, inReg .h⟩, ⟨.ld_mHL_L, [0x75], 8, inReg .l⟩,
   ⟨.ld_mHL_A, [0x77], 8, inReg .a⟩, ⟨.ld_mHL_n n, [0x36, n], 12, fun _ => n⟩]

/-- LD A,(BC), LD A,(DE), LD A,(nn), LDH A,(n), LD A,(C) (R205, R206, R209, R211, R213): the address read. -/
def loadARows (nn : Word16) (n : Byte) : List (Row (State → Word16)) :=
  [⟨.ld_A_mBC, [0x0A], 8, fun s => s.cpu.b ++ s.cpu.c⟩, ⟨.ld_A_mDE, [0x1A], 8, fun s => s.cpu.d ++ s.cpu.e⟩,
   ⟨.ld_A_mnn nn, [0xFA, lowByte nn, highByte nn], 16, fun _ => nn⟩,
   ⟨.ldh_A_mn n, [0xF0, n], 12, fun _ => 0xFF#8 ++ n⟩, ⟨.ld_A_mC, [0xF2], 8, fun s => 0xFF#8 ++ s.cpu.c⟩]

/-- LD (BC),A, LD (DE),A, LD (nn),A, LDH (n),A, LD (C),A (R207, R208, R210, R212, R214): the address written. -/
def storeARows (nn : Word16) (n : Byte) : List (Row (State → Word16)) :=
  [⟨.ld_mBC_A, [0x02], 8, fun s => s.cpu.b ++ s.cpu.c⟩, ⟨.ld_mDE_A, [0x12], 8, fun s => s.cpu.d ++ s.cpu.e⟩,
   ⟨.ld_mnn_A nn, [0xEA, lowByte nn, highByte nn], 16, fun _ => nn⟩,
   ⟨.ldh_mn_A n, [0xE0, n], 12, fun _ => 0xFF#8 ++ n⟩, ⟨.ld_mC_A, [0xE2], 8, fun s => 0xFF#8 ++ s.cpu.c⟩]

/-- LD (HL+),A and LD (HL-),A (R215, R217): what is added to HL. -/
def storeMoveRows : List (Row (Word16)) :=
  [⟨.ld_mHLinc_A, [0x22], 8, 1⟩, ⟨.ld_mHLdec_A, [0x32], 8, -1⟩]

/-- LD A,(HL+) and LD A,(HL-) (R216, R218): what is added to HL. -/
def loadMoveRows : List (Row (Word16)) :=
  [⟨.ld_A_mHLinc, [0x2A], 8, 1⟩, ⟨.ld_A_mHLdec, [0x3A], 8, -1⟩]

/-- LD rr,nn (R220): the destination. -/
def loadPairRows (nn : Word16) : List (Row (Reg16)) :=
  [⟨.ld_BC_nn nn, [0x01, lowByte nn, highByte nn], 12, .bc⟩,
   ⟨.ld_DE_nn nn, [0x11, lowByte nn, highByte nn], 12, .de⟩,
   ⟨.ld_HL_nn nn, [0x21, lowByte nn, highByte nn], 12, .hl⟩,
   ⟨.ld_SP_nn nn, [0x31, lowByte nn, highByte nn], 12, .sp⟩]

/-- PUSH rr (R230): the pair. -/
def pushRows : List (Row (StackReg)) :=
  [⟨.push_BC, [0xC5], 16, .bc⟩, ⟨.push_DE, [0xD5], 16, .de⟩, ⟨.push_HL, [0xE5], 16, .hl⟩,
   ⟨.push_AF, [0xF5], 16, .af⟩]

/-- POP rr (R231): the pair. -/
def popRows : List (Row (StackReg)) :=
  [⟨.pop_BC, [0xC1], 12, .bc⟩, ⟨.pop_DE, [0xD1], 12, .de⟩, ⟨.pop_HL, [0xE1], 12, .hl⟩]

/-- ADD with every operand (R251): the operand s. -/
def addRows (n : Byte) : List (Row (State → Byte)) :=
  [⟨.add_A_B, [0x80], 4, inReg .b⟩, ⟨.add_A_C, [0x81], 4, inReg .c⟩, ⟨.add_A_D, [0x82], 4, inReg .d⟩,
   ⟨.add_A_E, [0x83], 4, inReg .e⟩, ⟨.add_A_H, [0x84], 4, inReg .h⟩, ⟨.add_A_L, [0x85], 4, inReg .l⟩,
   ⟨.add_A_mHL, [0x86], 8, atHl⟩, ⟨.add_A_A, [0x87], 4, inReg .a⟩, ⟨.add_A_n n, [0xC6, n], 8, fun _ => n⟩]

/-- ADC with every operand (R252): the operand s. -/
def adcRows (n : Byte) : List (Row (State → Byte)) :=
  [⟨.adc_A_B, [0x88], 4, inReg .b⟩, ⟨.adc_A_C, [0x89], 4, inReg .c⟩, ⟨.adc_A_D, [0x8A], 4, inReg .d⟩,
   ⟨.adc_A_E, [0x8B], 4, inReg .e⟩, ⟨.adc_A_H, [0x8C], 4, inReg .h⟩, ⟨.adc_A_L, [0x8D], 4, inReg .l⟩,
   ⟨.adc_A_mHL, [0x8E], 8, atHl⟩, ⟨.adc_A_A, [0x8F], 4, inReg .a⟩, ⟨.adc_A_n n, [0xCE, n], 8, fun _ => n⟩]

/-- SUB with every operand (R253): the operand s. -/
def subRows (n : Byte) : List (Row (State → Byte)) :=
  [⟨.sub_B, [0x90], 4, inReg .b⟩, ⟨.sub_C, [0x91], 4, inReg .c⟩, ⟨.sub_D, [0x92], 4, inReg .d⟩,
   ⟨.sub_E, [0x93], 4, inReg .e⟩, ⟨.sub_H, [0x94], 4, inReg .h⟩, ⟨.sub_L, [0x95], 4, inReg .l⟩,
   ⟨.sub_mHL, [0x96], 8, atHl⟩, ⟨.sub_A, [0x97], 4, inReg .a⟩, ⟨.sub_n n, [0xD6, n], 8, fun _ => n⟩]

/-- SBC with every operand (R254): the operand s. -/
def sbcRows (n : Byte) : List (Row (State → Byte)) :=
  [⟨.sbc_A_B, [0x98], 4, inReg .b⟩, ⟨.sbc_A_C, [0x99], 4, inReg .c⟩, ⟨.sbc_A_D, [0x9A], 4, inReg .d⟩,
   ⟨.sbc_A_E, [0x9B], 4, inReg .e⟩, ⟨.sbc_A_H, [0x9C], 4, inReg .h⟩, ⟨.sbc_A_L, [0x9D], 4, inReg .l⟩,
   ⟨.sbc_A_mHL, [0x9E], 8, atHl⟩, ⟨.sbc_A_A, [0x9F], 4, inReg .a⟩, ⟨.sbc_A_n n, [0xDE, n], 8, fun _ => n⟩]

/-- AND with every operand (R255): the operand s. -/
def andRows (n : Byte) : List (Row (State → Byte)) :=
  [⟨.and_B, [0xA0], 4, inReg .b⟩, ⟨.and_C, [0xA1], 4, inReg .c⟩, ⟨.and_D, [0xA2], 4, inReg .d⟩,
   ⟨.and_E, [0xA3], 4, inReg .e⟩, ⟨.and_H, [0xA4], 4, inReg .h⟩, ⟨.and_L, [0xA5], 4, inReg .l⟩,
   ⟨.and_mHL, [0xA6], 8, atHl⟩, ⟨.and_A, [0xA7], 4, inReg .a⟩, ⟨.and_n n, [0xE6, n], 8, fun _ => n⟩]

/-- XOR with every operand (R256): the operand s. -/
def xorRows (n : Byte) : List (Row (State → Byte)) :=
  [⟨.xor_B, [0xA8], 4, inReg .b⟩, ⟨.xor_C, [0xA9], 4, inReg .c⟩, ⟨.xor_D, [0xAA], 4, inReg .d⟩,
   ⟨.xor_E, [0xAB], 4, inReg .e⟩, ⟨.xor_H, [0xAC], 4, inReg .h⟩, ⟨.xor_L, [0xAD], 4, inReg .l⟩,
   ⟨.xor_mHL, [0xAE], 8, atHl⟩, ⟨.xor_A, [0xAF], 4, inReg .a⟩, ⟨.xor_n n, [0xEE, n], 8, fun _ => n⟩]

/-- OR with every operand (R257): the operand s. -/
def orRows (n : Byte) : List (Row (State → Byte)) :=
  [⟨.or_B, [0xB0], 4, inReg .b⟩, ⟨.or_C, [0xB1], 4, inReg .c⟩, ⟨.or_D, [0xB2], 4, inReg .d⟩,
   ⟨.or_E, [0xB3], 4, inReg .e⟩, ⟨.or_H, [0xB4], 4, inReg .h⟩, ⟨.or_L, [0xB5], 4, inReg .l⟩,
   ⟨.or_mHL, [0xB6], 8, atHl⟩, ⟨.or_A, [0xB7], 4, inReg .a⟩, ⟨.or_n n, [0xF6, n], 8, fun _ => n⟩]

/-- CP with every operand (R258): the operand s. -/
def cpRows (n : Byte) : List (Row (State → Byte)) :=
  [⟨.cp_B, [0xB8], 4, inReg .b⟩, ⟨.cp_C, [0xB9], 4, inReg .c⟩, ⟨.cp_D, [0xBA], 4, inReg .d⟩,
   ⟨.cp_E, [0xBB], 4, inReg .e⟩, ⟨.cp_H, [0xBC], 4, inReg .h⟩, ⟨.cp_L, [0xBD], 4, inReg .l⟩,
   ⟨.cp_mHL, [0xBE], 8, atHl⟩, ⟨.cp_A, [0xBF], 4, inReg .a⟩, ⟨.cp_n n, [0xFE, n], 8, fun _ => n⟩]

/-- INC r and INC (HL) (R259, R260): the operand. -/
def incRows : List (Row (Op8)) :=
  [⟨.inc_B, [0x04], 4, .b⟩, ⟨.inc_C, [0x0C], 4, .c⟩, ⟨.inc_D, [0x14], 4, .d⟩, ⟨.inc_E, [0x1C], 4, .e⟩,
   ⟨.inc_H, [0x24], 4, .h⟩, ⟨.inc_L, [0x2C], 4, .l⟩, ⟨.inc_A, [0x3C], 4, .a⟩, ⟨.inc_mHL, [0x34], 12, .mHL⟩]

/-- DEC r and DEC (HL) (R261, R262): the operand. -/
def decRows : List (Row (Op8)) :=
  [⟨.dec_B, [0x05], 4, .b⟩, ⟨.dec_C, [0x0D], 4, .c⟩, ⟨.dec_D, [0x15], 4, .d⟩, ⟨.dec_E, [0x1D], 4, .e⟩,
   ⟨.dec_H, [0x25], 4, .h⟩, ⟨.dec_L, [0x2D], 4, .l⟩, ⟨.dec_A, [0x3D], 4, .a⟩, ⟨.dec_mHL, [0x35], 12, .mHL⟩]

/-- INC rr (R300): the pair. -/
def incPairRows : List (Row (Reg16)) :=
  [⟨.inc_BC, [0x03], 8, .bc⟩, ⟨.inc_DE, [0x13], 8, .de⟩, ⟨.inc_HL, [0x23], 8, .hl⟩, ⟨.inc_SP, [0x33], 8, .sp⟩]

/-- DEC rr (R301): the pair. -/
def decPairRows : List (Row (Reg16)) :=
  [⟨.dec_BC, [0x0B], 8, .bc⟩, ⟨.dec_DE, [0x1B], 8, .de⟩, ⟨.dec_HL, [0x2B], 8, .hl⟩, ⟨.dec_SP, [0x3B], 8, .sp⟩]

/-- ADD HL,rr (R302): the pair. -/
def addHlRows : List (Row (Reg16)) :=
  [⟨.add_HL_BC, [0x09], 8, .bc⟩, ⟨.add_HL_DE, [0x19], 8, .de⟩, ⟨.add_HL_HL, [0x29], 8, .hl⟩,
   ⟨.add_HL_SP, [0x39], 8, .sp⟩]

/-- RLC with every operand (R325): the operand. -/
def rlcRows : List (Row (Op8)) :=
  [⟨.rlc_B, [0xCB, 0x00], 8, .b⟩, ⟨.rlc_C, [0xCB, 0x01], 8, .c⟩, ⟨.rlc_D, [0xCB, 0x02], 8, .d⟩,
   ⟨.rlc_E, [0xCB, 0x03], 8, .e⟩, ⟨.rlc_H, [0xCB, 0x04], 8, .h⟩, ⟨.rlc_L, [0xCB, 0x05], 8, .l⟩,
   ⟨.rlc_mHL, [0xCB, 0x06], 16, .mHL⟩, ⟨.rlc_A, [0xCB, 0x07], 8, .a⟩]

/-- RRC with every operand (R326): the operand. -/
def rrcRows : List (Row (Op8)) :=
  [⟨.rrc_B, [0xCB, 0x08], 8, .b⟩, ⟨.rrc_C, [0xCB, 0x09], 8, .c⟩, ⟨.rrc_D, [0xCB, 0x0A], 8, .d⟩,
   ⟨.rrc_E, [0xCB, 0x0B], 8, .e⟩, ⟨.rrc_H, [0xCB, 0x0C], 8, .h⟩, ⟨.rrc_L, [0xCB, 0x0D], 8, .l⟩,
   ⟨.rrc_mHL, [0xCB, 0x0E], 16, .mHL⟩, ⟨.rrc_A, [0xCB, 0x0F], 8, .a⟩]

/-- RL with every operand (R327): the operand. -/
def rlRows : List (Row (Op8)) :=
  [⟨.rl_B, [0xCB, 0x10], 8, .b⟩, ⟨.rl_C, [0xCB, 0x11], 8, .c⟩, ⟨.rl_D, [0xCB, 0x12], 8, .d⟩,
   ⟨.rl_E, [0xCB, 0x13], 8, .e⟩, ⟨.rl_H, [0xCB, 0x14], 8, .h⟩, ⟨.rl_L, [0xCB, 0x15], 8, .l⟩,
   ⟨.rl_mHL, [0xCB, 0x16], 16, .mHL⟩, ⟨.rl_A, [0xCB, 0x17], 8, .a⟩]

/-- RR with every operand (R328): the operand. -/
def rrRows : List (Row (Op8)) :=
  [⟨.rr_B, [0xCB, 0x18], 8, .b⟩, ⟨.rr_C, [0xCB, 0x19], 8, .c⟩, ⟨.rr_D, [0xCB, 0x1A], 8, .d⟩,
   ⟨.rr_E, [0xCB, 0x1B], 8, .e⟩, ⟨.rr_H, [0xCB, 0x1C], 8, .h⟩, ⟨.rr_L, [0xCB, 0x1D], 8, .l⟩,
   ⟨.rr_mHL, [0xCB, 0x1E], 16, .mHL⟩, ⟨.rr_A, [0xCB, 0x1F], 8, .a⟩]

/-- SLA with every operand (R329): the operand. -/
def slaRows : List (Row (Op8)) :=
  [⟨.sla_B, [0xCB, 0x20], 8, .b⟩, ⟨.sla_C, [0xCB, 0x21], 8, .c⟩, ⟨.sla_D, [0xCB, 0x22], 8, .d⟩,
   ⟨.sla_E, [0xCB, 0x23], 8, .e⟩, ⟨.sla_H, [0xCB, 0x24], 8, .h⟩, ⟨.sla_L, [0xCB, 0x25], 8, .l⟩,
   ⟨.sla_mHL, [0xCB, 0x26], 16, .mHL⟩, ⟨.sla_A, [0xCB, 0x27], 8, .a⟩]

/-- SRA with every operand (R330): the operand. -/
def sraRows : List (Row (Op8)) :=
  [⟨.sra_B, [0xCB, 0x28], 8, .b⟩, ⟨.sra_C, [0xCB, 0x29], 8, .c⟩, ⟨.sra_D, [0xCB, 0x2A], 8, .d⟩,
   ⟨.sra_E, [0xCB, 0x2B], 8, .e⟩, ⟨.sra_H, [0xCB, 0x2C], 8, .h⟩, ⟨.sra_L, [0xCB, 0x2D], 8, .l⟩,
   ⟨.sra_mHL, [0xCB, 0x2E], 16, .mHL⟩, ⟨.sra_A, [0xCB, 0x2F], 8, .a⟩]

/-- SWAP with every operand (R331): the operand. -/
def swapRows : List (Row (Op8)) :=
  [⟨.swap_B, [0xCB, 0x30], 8, .b⟩, ⟨.swap_C, [0xCB, 0x31], 8, .c⟩, ⟨.swap_D, [0xCB, 0x32], 8, .d⟩,
   ⟨.swap_E, [0xCB, 0x33], 8, .e⟩, ⟨.swap_H, [0xCB, 0x34], 8, .h⟩, ⟨.swap_L, [0xCB, 0x35], 8, .l⟩,
   ⟨.swap_mHL, [0xCB, 0x36], 16, .mHL⟩, ⟨.swap_A, [0xCB, 0x37], 8, .a⟩]

/-- SRL with every operand (R332): the operand. -/
def srlRows : List (Row (Op8)) :=
  [⟨.srl_B, [0xCB, 0x38], 8, .b⟩, ⟨.srl_C, [0xCB, 0x39], 8, .c⟩, ⟨.srl_D, [0xCB, 0x3A], 8, .d⟩,
   ⟨.srl_E, [0xCB, 0x3B], 8, .e⟩, ⟨.srl_H, [0xCB, 0x3C], 8, .h⟩, ⟨.srl_L, [0xCB, 0x3D], 8, .l⟩,
   ⟨.srl_mHL, [0xCB, 0x3E], 16, .mHL⟩, ⟨.srl_A, [0xCB, 0x3F], 8, .a⟩]

/-- BIT b,B (R333): the bit and the operand. -/
def bitRowsB : List (Row (Nat × Op8)) :=
  [⟨.bit_0_B, [0xCB, 0x40], 8, (0, .b)⟩, ⟨.bit_1_B, [0xCB, 0x48], 8, (1, .b)⟩,
   ⟨.bit_2_B, [0xCB, 0x50], 8, (2, .b)⟩, ⟨.bit_3_B, [0xCB, 0x58], 8, (3, .b)⟩,
   ⟨.bit_4_B, [0xCB, 0x60], 8, (4, .b)⟩, ⟨.bit_5_B, [0xCB, 0x68], 8, (5, .b)⟩,
   ⟨.bit_6_B, [0xCB, 0x70], 8, (6, .b)⟩, ⟨.bit_7_B, [0xCB, 0x78], 8, (7, .b)⟩]

/-- BIT b,C (R333): the bit and the operand. -/
def bitRowsC : List (Row (Nat × Op8)) :=
  [⟨.bit_0_C, [0xCB, 0x41], 8, (0, .c)⟩, ⟨.bit_1_C, [0xCB, 0x49], 8, (1, .c)⟩,
   ⟨.bit_2_C, [0xCB, 0x51], 8, (2, .c)⟩, ⟨.bit_3_C, [0xCB, 0x59], 8, (3, .c)⟩,
   ⟨.bit_4_C, [0xCB, 0x61], 8, (4, .c)⟩, ⟨.bit_5_C, [0xCB, 0x69], 8, (5, .c)⟩,
   ⟨.bit_6_C, [0xCB, 0x71], 8, (6, .c)⟩, ⟨.bit_7_C, [0xCB, 0x79], 8, (7, .c)⟩]

/-- BIT b,D (R333): the bit and the operand. -/
def bitRowsD : List (Row (Nat × Op8)) :=
  [⟨.bit_0_D, [0xCB, 0x42], 8, (0, .d)⟩, ⟨.bit_1_D, [0xCB, 0x4A], 8, (1, .d)⟩,
   ⟨.bit_2_D, [0xCB, 0x52], 8, (2, .d)⟩, ⟨.bit_3_D, [0xCB, 0x5A], 8, (3, .d)⟩,
   ⟨.bit_4_D, [0xCB, 0x62], 8, (4, .d)⟩, ⟨.bit_5_D, [0xCB, 0x6A], 8, (5, .d)⟩,
   ⟨.bit_6_D, [0xCB, 0x72], 8, (6, .d)⟩, ⟨.bit_7_D, [0xCB, 0x7A], 8, (7, .d)⟩]

/-- BIT b,E (R333): the bit and the operand. -/
def bitRowsE : List (Row (Nat × Op8)) :=
  [⟨.bit_0_E, [0xCB, 0x43], 8, (0, .e)⟩, ⟨.bit_1_E, [0xCB, 0x4B], 8, (1, .e)⟩,
   ⟨.bit_2_E, [0xCB, 0x53], 8, (2, .e)⟩, ⟨.bit_3_E, [0xCB, 0x5B], 8, (3, .e)⟩,
   ⟨.bit_4_E, [0xCB, 0x63], 8, (4, .e)⟩, ⟨.bit_5_E, [0xCB, 0x6B], 8, (5, .e)⟩,
   ⟨.bit_6_E, [0xCB, 0x73], 8, (6, .e)⟩, ⟨.bit_7_E, [0xCB, 0x7B], 8, (7, .e)⟩]

/-- BIT b,H (R333): the bit and the operand. -/
def bitRowsH : List (Row (Nat × Op8)) :=
  [⟨.bit_0_H, [0xCB, 0x44], 8, (0, .h)⟩, ⟨.bit_1_H, [0xCB, 0x4C], 8, (1, .h)⟩,
   ⟨.bit_2_H, [0xCB, 0x54], 8, (2, .h)⟩, ⟨.bit_3_H, [0xCB, 0x5C], 8, (3, .h)⟩,
   ⟨.bit_4_H, [0xCB, 0x64], 8, (4, .h)⟩, ⟨.bit_5_H, [0xCB, 0x6C], 8, (5, .h)⟩,
   ⟨.bit_6_H, [0xCB, 0x74], 8, (6, .h)⟩, ⟨.bit_7_H, [0xCB, 0x7C], 8, (7, .h)⟩]

/-- BIT b,L (R333): the bit and the operand. -/
def bitRowsL : List (Row (Nat × Op8)) :=
  [⟨.bit_0_L, [0xCB, 0x45], 8, (0, .l)⟩, ⟨.bit_1_L, [0xCB, 0x4D], 8, (1, .l)⟩,
   ⟨.bit_2_L, [0xCB, 0x55], 8, (2, .l)⟩, ⟨.bit_3_L, [0xCB, 0x5D], 8, (3, .l)⟩,
   ⟨.bit_4_L, [0xCB, 0x65], 8, (4, .l)⟩, ⟨.bit_5_L, [0xCB, 0x6D], 8, (5, .l)⟩,
   ⟨.bit_6_L, [0xCB, 0x75], 8, (6, .l)⟩, ⟨.bit_7_L, [0xCB, 0x7D], 8, (7, .l)⟩]

/-- BIT b,(HL) (R333): the bit and the operand. -/
def bitRowsHl : List (Row (Nat × Op8)) :=
  [⟨.bit_0_mHL, [0xCB, 0x46], 12, (0, .mHL)⟩, ⟨.bit_1_mHL, [0xCB, 0x4E], 12, (1, .mHL)⟩,
   ⟨.bit_2_mHL, [0xCB, 0x56], 12, (2, .mHL)⟩, ⟨.bit_3_mHL, [0xCB, 0x5E], 12, (3, .mHL)⟩,
   ⟨.bit_4_mHL, [0xCB, 0x66], 12, (4, .mHL)⟩, ⟨.bit_5_mHL, [0xCB, 0x6E], 12, (5, .mHL)⟩,
   ⟨.bit_6_mHL, [0xCB, 0x76], 12, (6, .mHL)⟩, ⟨.bit_7_mHL, [0xCB, 0x7E], 12, (7, .mHL)⟩]

/-- BIT b,A (R333): the bit and the operand. -/
def bitRowsA : List (Row (Nat × Op8)) :=
  [⟨.bit_0_A, [0xCB, 0x47], 8, (0, .a)⟩, ⟨.bit_1_A, [0xCB, 0x4F], 8, (1, .a)⟩,
   ⟨.bit_2_A, [0xCB, 0x57], 8, (2, .a)⟩, ⟨.bit_3_A, [0xCB, 0x5F], 8, (3, .a)⟩,
   ⟨.bit_4_A, [0xCB, 0x67], 8, (4, .a)⟩, ⟨.bit_5_A, [0xCB, 0x6F], 8, (5, .a)⟩,
   ⟨.bit_6_A, [0xCB, 0x77], 8, (6, .a)⟩, ⟨.bit_7_A, [0xCB, 0x7F], 8, (7, .a)⟩]

/-- RES b,B (R334): the bit and the operand. -/
def resRowsB : List (Row (Nat × Op8)) :=
  [⟨.res_0_B, [0xCB, 0x80], 8, (0, .b)⟩, ⟨.res_1_B, [0xCB, 0x88], 8, (1, .b)⟩,
   ⟨.res_2_B, [0xCB, 0x90], 8, (2, .b)⟩, ⟨.res_3_B, [0xCB, 0x98], 8, (3, .b)⟩,
   ⟨.res_4_B, [0xCB, 0xA0], 8, (4, .b)⟩, ⟨.res_5_B, [0xCB, 0xA8], 8, (5, .b)⟩,
   ⟨.res_6_B, [0xCB, 0xB0], 8, (6, .b)⟩, ⟨.res_7_B, [0xCB, 0xB8], 8, (7, .b)⟩]

/-- RES b,C (R334): the bit and the operand. -/
def resRowsC : List (Row (Nat × Op8)) :=
  [⟨.res_0_C, [0xCB, 0x81], 8, (0, .c)⟩, ⟨.res_1_C, [0xCB, 0x89], 8, (1, .c)⟩,
   ⟨.res_2_C, [0xCB, 0x91], 8, (2, .c)⟩, ⟨.res_3_C, [0xCB, 0x99], 8, (3, .c)⟩,
   ⟨.res_4_C, [0xCB, 0xA1], 8, (4, .c)⟩, ⟨.res_5_C, [0xCB, 0xA9], 8, (5, .c)⟩,
   ⟨.res_6_C, [0xCB, 0xB1], 8, (6, .c)⟩, ⟨.res_7_C, [0xCB, 0xB9], 8, (7, .c)⟩]

/-- RES b,D (R334): the bit and the operand. -/
def resRowsD : List (Row (Nat × Op8)) :=
  [⟨.res_0_D, [0xCB, 0x82], 8, (0, .d)⟩, ⟨.res_1_D, [0xCB, 0x8A], 8, (1, .d)⟩,
   ⟨.res_2_D, [0xCB, 0x92], 8, (2, .d)⟩, ⟨.res_3_D, [0xCB, 0x9A], 8, (3, .d)⟩,
   ⟨.res_4_D, [0xCB, 0xA2], 8, (4, .d)⟩, ⟨.res_5_D, [0xCB, 0xAA], 8, (5, .d)⟩,
   ⟨.res_6_D, [0xCB, 0xB2], 8, (6, .d)⟩, ⟨.res_7_D, [0xCB, 0xBA], 8, (7, .d)⟩]

/-- RES b,E (R334): the bit and the operand. -/
def resRowsE : List (Row (Nat × Op8)) :=
  [⟨.res_0_E, [0xCB, 0x83], 8, (0, .e)⟩, ⟨.res_1_E, [0xCB, 0x8B], 8, (1, .e)⟩,
   ⟨.res_2_E, [0xCB, 0x93], 8, (2, .e)⟩, ⟨.res_3_E, [0xCB, 0x9B], 8, (3, .e)⟩,
   ⟨.res_4_E, [0xCB, 0xA3], 8, (4, .e)⟩, ⟨.res_5_E, [0xCB, 0xAB], 8, (5, .e)⟩,
   ⟨.res_6_E, [0xCB, 0xB3], 8, (6, .e)⟩, ⟨.res_7_E, [0xCB, 0xBB], 8, (7, .e)⟩]

/-- RES b,H (R334): the bit and the operand. -/
def resRowsH : List (Row (Nat × Op8)) :=
  [⟨.res_0_H, [0xCB, 0x84], 8, (0, .h)⟩, ⟨.res_1_H, [0xCB, 0x8C], 8, (1, .h)⟩,
   ⟨.res_2_H, [0xCB, 0x94], 8, (2, .h)⟩, ⟨.res_3_H, [0xCB, 0x9C], 8, (3, .h)⟩,
   ⟨.res_4_H, [0xCB, 0xA4], 8, (4, .h)⟩, ⟨.res_5_H, [0xCB, 0xAC], 8, (5, .h)⟩,
   ⟨.res_6_H, [0xCB, 0xB4], 8, (6, .h)⟩, ⟨.res_7_H, [0xCB, 0xBC], 8, (7, .h)⟩]

/-- RES b,L (R334): the bit and the operand. -/
def resRowsL : List (Row (Nat × Op8)) :=
  [⟨.res_0_L, [0xCB, 0x85], 8, (0, .l)⟩, ⟨.res_1_L, [0xCB, 0x8D], 8, (1, .l)⟩,
   ⟨.res_2_L, [0xCB, 0x95], 8, (2, .l)⟩, ⟨.res_3_L, [0xCB, 0x9D], 8, (3, .l)⟩,
   ⟨.res_4_L, [0xCB, 0xA5], 8, (4, .l)⟩, ⟨.res_5_L, [0xCB, 0xAD], 8, (5, .l)⟩,
   ⟨.res_6_L, [0xCB, 0xB5], 8, (6, .l)⟩, ⟨.res_7_L, [0xCB, 0xBD], 8, (7, .l)⟩]

/-- RES b,(HL) (R334): the bit and the operand. -/
def resRowsHl : List (Row (Nat × Op8)) :=
  [⟨.res_0_mHL, [0xCB, 0x86], 16, (0, .mHL)⟩, ⟨.res_1_mHL, [0xCB, 0x8E], 16, (1, .mHL)⟩,
   ⟨.res_2_mHL, [0xCB, 0x96], 16, (2, .mHL)⟩, ⟨.res_3_mHL, [0xCB, 0x9E], 16, (3, .mHL)⟩,
   ⟨.res_4_mHL, [0xCB, 0xA6], 16, (4, .mHL)⟩, ⟨.res_5_mHL, [0xCB, 0xAE], 16, (5, .mHL)⟩,
   ⟨.res_6_mHL, [0xCB, 0xB6], 16, (6, .mHL)⟩, ⟨.res_7_mHL, [0xCB, 0xBE], 16, (7, .mHL)⟩]

/-- RES b,A (R334): the bit and the operand. -/
def resRowsA : List (Row (Nat × Op8)) :=
  [⟨.res_0_A, [0xCB, 0x87], 8, (0, .a)⟩, ⟨.res_1_A, [0xCB, 0x8F], 8, (1, .a)⟩,
   ⟨.res_2_A, [0xCB, 0x97], 8, (2, .a)⟩, ⟨.res_3_A, [0xCB, 0x9F], 8, (3, .a)⟩,
   ⟨.res_4_A, [0xCB, 0xA7], 8, (4, .a)⟩, ⟨.res_5_A, [0xCB, 0xAF], 8, (5, .a)⟩,
   ⟨.res_6_A, [0xCB, 0xB7], 8, (6, .a)⟩, ⟨.res_7_A, [0xCB, 0xBF], 8, (7, .a)⟩]

/-- SET b,B (R335): the bit and the operand. -/
def setRowsB : List (Row (Nat × Op8)) :=
  [⟨.set_0_B, [0xCB, 0xC0], 8, (0, .b)⟩, ⟨.set_1_B, [0xCB, 0xC8], 8, (1, .b)⟩,
   ⟨.set_2_B, [0xCB, 0xD0], 8, (2, .b)⟩, ⟨.set_3_B, [0xCB, 0xD8], 8, (3, .b)⟩,
   ⟨.set_4_B, [0xCB, 0xE0], 8, (4, .b)⟩, ⟨.set_5_B, [0xCB, 0xE8], 8, (5, .b)⟩,
   ⟨.set_6_B, [0xCB, 0xF0], 8, (6, .b)⟩, ⟨.set_7_B, [0xCB, 0xF8], 8, (7, .b)⟩]

/-- SET b,C (R335): the bit and the operand. -/
def setRowsC : List (Row (Nat × Op8)) :=
  [⟨.set_0_C, [0xCB, 0xC1], 8, (0, .c)⟩, ⟨.set_1_C, [0xCB, 0xC9], 8, (1, .c)⟩,
   ⟨.set_2_C, [0xCB, 0xD1], 8, (2, .c)⟩, ⟨.set_3_C, [0xCB, 0xD9], 8, (3, .c)⟩,
   ⟨.set_4_C, [0xCB, 0xE1], 8, (4, .c)⟩, ⟨.set_5_C, [0xCB, 0xE9], 8, (5, .c)⟩,
   ⟨.set_6_C, [0xCB, 0xF1], 8, (6, .c)⟩, ⟨.set_7_C, [0xCB, 0xF9], 8, (7, .c)⟩]

/-- SET b,D (R335): the bit and the operand. -/
def setRowsD : List (Row (Nat × Op8)) :=
  [⟨.set_0_D, [0xCB, 0xC2], 8, (0, .d)⟩, ⟨.set_1_D, [0xCB, 0xCA], 8, (1, .d)⟩,
   ⟨.set_2_D, [0xCB, 0xD2], 8, (2, .d)⟩, ⟨.set_3_D, [0xCB, 0xDA], 8, (3, .d)⟩,
   ⟨.set_4_D, [0xCB, 0xE2], 8, (4, .d)⟩, ⟨.set_5_D, [0xCB, 0xEA], 8, (5, .d)⟩,
   ⟨.set_6_D, [0xCB, 0xF2], 8, (6, .d)⟩, ⟨.set_7_D, [0xCB, 0xFA], 8, (7, .d)⟩]

/-- SET b,E (R335): the bit and the operand. -/
def setRowsE : List (Row (Nat × Op8)) :=
  [⟨.set_0_E, [0xCB, 0xC3], 8, (0, .e)⟩, ⟨.set_1_E, [0xCB, 0xCB], 8, (1, .e)⟩,
   ⟨.set_2_E, [0xCB, 0xD3], 8, (2, .e)⟩, ⟨.set_3_E, [0xCB, 0xDB], 8, (3, .e)⟩,
   ⟨.set_4_E, [0xCB, 0xE3], 8, (4, .e)⟩, ⟨.set_5_E, [0xCB, 0xEB], 8, (5, .e)⟩,
   ⟨.set_6_E, [0xCB, 0xF3], 8, (6, .e)⟩, ⟨.set_7_E, [0xCB, 0xFB], 8, (7, .e)⟩]

/-- SET b,H (R335): the bit and the operand. -/
def setRowsH : List (Row (Nat × Op8)) :=
  [⟨.set_0_H, [0xCB, 0xC4], 8, (0, .h)⟩, ⟨.set_1_H, [0xCB, 0xCC], 8, (1, .h)⟩,
   ⟨.set_2_H, [0xCB, 0xD4], 8, (2, .h)⟩, ⟨.set_3_H, [0xCB, 0xDC], 8, (3, .h)⟩,
   ⟨.set_4_H, [0xCB, 0xE4], 8, (4, .h)⟩, ⟨.set_5_H, [0xCB, 0xEC], 8, (5, .h)⟩,
   ⟨.set_6_H, [0xCB, 0xF4], 8, (6, .h)⟩, ⟨.set_7_H, [0xCB, 0xFC], 8, (7, .h)⟩]

/-- SET b,L (R335): the bit and the operand. -/
def setRowsL : List (Row (Nat × Op8)) :=
  [⟨.set_0_L, [0xCB, 0xC5], 8, (0, .l)⟩, ⟨.set_1_L, [0xCB, 0xCD], 8, (1, .l)⟩,
   ⟨.set_2_L, [0xCB, 0xD5], 8, (2, .l)⟩, ⟨.set_3_L, [0xCB, 0xDD], 8, (3, .l)⟩,
   ⟨.set_4_L, [0xCB, 0xE5], 8, (4, .l)⟩, ⟨.set_5_L, [0xCB, 0xED], 8, (5, .l)⟩,
   ⟨.set_6_L, [0xCB, 0xF5], 8, (6, .l)⟩, ⟨.set_7_L, [0xCB, 0xFD], 8, (7, .l)⟩]

/-- SET b,(HL) (R335): the bit and the operand. -/
def setRowsHl : List (Row (Nat × Op8)) :=
  [⟨.set_0_mHL, [0xCB, 0xC6], 16, (0, .mHL)⟩, ⟨.set_1_mHL, [0xCB, 0xCE], 16, (1, .mHL)⟩,
   ⟨.set_2_mHL, [0xCB, 0xD6], 16, (2, .mHL)⟩, ⟨.set_3_mHL, [0xCB, 0xDE], 16, (3, .mHL)⟩,
   ⟨.set_4_mHL, [0xCB, 0xE6], 16, (4, .mHL)⟩, ⟨.set_5_mHL, [0xCB, 0xEE], 16, (5, .mHL)⟩,
   ⟨.set_6_mHL, [0xCB, 0xF6], 16, (6, .mHL)⟩, ⟨.set_7_mHL, [0xCB, 0xFE], 16, (7, .mHL)⟩]

/-- SET b,A (R335): the bit and the operand. -/
def setRowsA : List (Row (Nat × Op8)) :=
  [⟨.set_0_A, [0xCB, 0xC7], 8, (0, .a)⟩, ⟨.set_1_A, [0xCB, 0xCF], 8, (1, .a)⟩,
   ⟨.set_2_A, [0xCB, 0xD7], 8, (2, .a)⟩, ⟨.set_3_A, [0xCB, 0xDF], 8, (3, .a)⟩,
   ⟨.set_4_A, [0xCB, 0xE7], 8, (4, .a)⟩, ⟨.set_5_A, [0xCB, 0xEF], 8, (5, .a)⟩,
   ⟨.set_6_A, [0xCB, 0xF7], 8, (6, .a)⟩, ⟨.set_7_A, [0xCB, 0xFF], 8, (7, .a)⟩]

/-- RST t (R381): the target. -/
def rstRows : List (Row (Word16)) :=
  [⟨.rst_00h, [0xC7], 16, 0x0000⟩, ⟨.rst_08h, [0xCF], 16, 0x0008⟩, ⟨.rst_10h, [0xD7], 16, 0x0010⟩,
   ⟨.rst_18h, [0xDF], 16, 0x0018⟩, ⟨.rst_20h, [0xE7], 16, 0x0020⟩, ⟨.rst_28h, [0xEF], 16, 0x0028⟩,
   ⟨.rst_30h, [0xF7], 16, 0x0030⟩, ⟨.rst_38h, [0xFF], 16, 0x0038⟩]

/-- JP cc,nn (R372): the condition. -/
def jpCondRows (nn : Word16) : List CondRow :=
  [⟨.jp_NZ_nn nn, [0xC2, lowByte nn, highByte nn], 12, 16, .nz⟩,
   ⟨.jp_Z_nn nn, [0xCA, lowByte nn, highByte nn], 12, 16, .z⟩,
   ⟨.jp_NC_nn nn, [0xD2, lowByte nn, highByte nn], 12, 16, .nc⟩,
   ⟨.jp_C_nn nn, [0xDA, lowByte nn, highByte nn], 12, 16, .c⟩]

/-- JR cc,e (R375): the condition. -/
def jrCondRows (e : Byte) : List CondRow :=
  [⟨.jr_NZ_e e, [0x20, e], 8, 12, .nz⟩, ⟨.jr_Z_e e, [0x28, e], 8, 12, .z⟩, ⟨.jr_NC_e e, [0x30, e], 8, 12, .nc⟩,
   ⟨.jr_C_e e, [0x38, e], 8, 12, .c⟩]

/-- CALL cc,nn (R377): the condition. -/
def callCondRows (nn : Word16) : List CondRow :=
  [⟨.call_NZ_nn nn, [0xC4, lowByte nn, highByte nn], 12, 24, .nz⟩,
   ⟨.call_Z_nn nn, [0xCC, lowByte nn, highByte nn], 12, 24, .z⟩,
   ⟨.call_NC_nn nn, [0xD4, lowByte nn, highByte nn], 12, 24, .nc⟩,
   ⟨.call_C_nn nn, [0xDC, lowByte nn, highByte nn], 12, 24, .c⟩]

/-- RET cc (R379): the condition. -/
def retCondRows : List CondRow :=
  [⟨.ret_NZ, [0xC0], 8, 20, .nz⟩, ⟨.ret_Z, [0xC8], 8, 20, .z⟩, ⟨.ret_NC, [0xD0], 8, 20, .nc⟩,
   ⟨.ret_C, [0xD8], 8, 20, .c⟩]

/-- The invalid opcodes (R183, R426): the opcode byte. -/
def invalidRows : List (Row (Byte)) :=
  [⟨.invalid_D3, [0xD3], 0, 0xD3⟩, ⟨.invalid_DB, [0xDB], 0, 0xDB⟩, ⟨.invalid_DD, [0xDD], 0, 0xDD⟩,
   ⟨.invalid_E3, [0xE3], 0, 0xE3⟩, ⟨.invalid_E4, [0xE4], 0, 0xE4⟩, ⟨.invalid_EB, [0xEB], 0, 0xEB⟩,
   ⟨.invalid_EC, [0xEC], 0, 0xEC⟩, ⟨.invalid_ED, [0xED], 0, 0xED⟩, ⟨.invalid_F4, [0xF4], 0, 0xF4⟩,
   ⟨.invalid_FC, [0xFC], 0, 0xFC⟩, ⟨.invalid_FD, [0xFD], 0, 0xFD⟩]

/-- The loads and arithmetic forms that store at (HL). -/
def storeFormsHl (n : Byte) : List (Instr × (State → List Word16)) :=
  [(.ld_mHL_B, fun s => [s.cpu.h ++ s.cpu.l]), (.ld_mHL_C, fun s => [s.cpu.h ++ s.cpu.l]),
   (.ld_mHL_D, fun s => [s.cpu.h ++ s.cpu.l]), (.ld_mHL_E, fun s => [s.cpu.h ++ s.cpu.l]),
   (.ld_mHL_H, fun s => [s.cpu.h ++ s.cpu.l]), (.ld_mHL_L, fun s => [s.cpu.h ++ s.cpu.l]),
   (.ld_mHL_A, fun s => [s.cpu.h ++ s.cpu.l]), (.ld_mHL_n n, fun s => [s.cpu.h ++ s.cpu.l]),
   (.ld_mHLinc_A, fun s => [s.cpu.h ++ s.cpu.l]), (.ld_mHLdec_A, fun s => [s.cpu.h ++ s.cpu.l]),
   (.inc_mHL, fun s => [s.cpu.h ++ s.cpu.l]), (.dec_mHL, fun s => [s.cpu.h ++ s.cpu.l])]

/-- The CB rotates and shifts that store at (HL). -/
def storeFormsCb : List (Instr × (State → List Word16)) :=
  [(.rlc_mHL, fun s => [s.cpu.h ++ s.cpu.l]), (.rrc_mHL, fun s => [s.cpu.h ++ s.cpu.l]),
   (.rl_mHL, fun s => [s.cpu.h ++ s.cpu.l]), (.rr_mHL, fun s => [s.cpu.h ++ s.cpu.l]),
   (.sla_mHL, fun s => [s.cpu.h ++ s.cpu.l]), (.sra_mHL, fun s => [s.cpu.h ++ s.cpu.l]),
   (.swap_mHL, fun s => [s.cpu.h ++ s.cpu.l]), (.srl_mHL, fun s => [s.cpu.h ++ s.cpu.l])]

/-- RES and SET that store at (HL). -/
def storeFormsBits : List (Instr × (State → List Word16)) :=
  [(.res_0_mHL, fun s => [s.cpu.h ++ s.cpu.l]), (.res_1_mHL, fun s => [s.cpu.h ++ s.cpu.l]),
   (.res_2_mHL, fun s => [s.cpu.h ++ s.cpu.l]), (.res_3_mHL, fun s => [s.cpu.h ++ s.cpu.l]),
   (.res_4_mHL, fun s => [s.cpu.h ++ s.cpu.l]), (.res_5_mHL, fun s => [s.cpu.h ++ s.cpu.l]),
   (.res_6_mHL, fun s => [s.cpu.h ++ s.cpu.l]), (.res_7_mHL, fun s => [s.cpu.h ++ s.cpu.l]),
   (.set_0_mHL, fun s => [s.cpu.h ++ s.cpu.l]), (.set_1_mHL, fun s => [s.cpu.h ++ s.cpu.l]),
   (.set_2_mHL, fun s => [s.cpu.h ++ s.cpu.l]), (.set_3_mHL, fun s => [s.cpu.h ++ s.cpu.l]),
   (.set_4_mHL, fun s => [s.cpu.h ++ s.cpu.l]), (.set_5_mHL, fun s => [s.cpu.h ++ s.cpu.l]),
   (.set_6_mHL, fun s => [s.cpu.h ++ s.cpu.l]), (.set_7_mHL, fun s => [s.cpu.h ++ s.cpu.l])]

/-- The stores of A and SP at an address. -/
def storeFormsA (nn : Word16) (n : Byte) : List (Instr × (State → List Word16)) :=
  [(.ld_mBC_A, fun s => [s.cpu.b ++ s.cpu.c]), (.ld_mDE_A, fun s => [s.cpu.d ++ s.cpu.e]),
   (.ld_mnn_A nn, fun _ => [nn]), (.ldh_mn_A n, fun _ => [0xFF#8 ++ n]),
   (.ld_mC_A, fun s => [0xFF#8 ++ s.cpu.c]), (.ld_mnn_SP nn, fun _ => [nn, nn + 1])]

/-- PUSH, CALL and RST, which store below SP. -/
def storeFormsStack (nn : Word16) : List (Instr × (State → List Word16)) :=
  [(.push_BC, fun s => [s.cpu.sp - 1, s.cpu.sp - 2]), (.push_DE, fun s => [s.cpu.sp - 1, s.cpu.sp - 2]),
   (.push_HL, fun s => [s.cpu.sp - 1, s.cpu.sp - 2]), (.push_AF, fun s => [s.cpu.sp - 1, s.cpu.sp - 2]),
   (.call_nn nn, fun s => [s.cpu.sp - 1, s.cpu.sp - 2]), (.rst_00h, fun s => [s.cpu.sp - 1, s.cpu.sp - 2]),
   (.rst_08h, fun s => [s.cpu.sp - 1, s.cpu.sp - 2]), (.rst_10h, fun s => [s.cpu.sp - 1, s.cpu.sp - 2]),
   (.rst_18h, fun s => [s.cpu.sp - 1, s.cpu.sp - 2]), (.rst_20h, fun s => [s.cpu.sp - 1, s.cpu.sp - 2]),
   (.rst_28h, fun s => [s.cpu.sp - 1, s.cpu.sp - 2]), (.rst_30h, fun s => [s.cpu.sp - 1, s.cpu.sp - 2]),
   (.rst_38h, fun s => [s.cpu.sp - 1, s.cpu.sp - 2])]

/-- CALL cc, which stores below SP when it is taken. -/
def storeFormsCall (nn : Word16) : List (Instr × (State → List Word16)) :=
  [(.call_NZ_nn nn, fun s => [s.cpu.sp - 1, s.cpu.sp - 2]),
   (.call_Z_nn nn, fun s => [s.cpu.sp - 1, s.cpu.sp - 2]),
   (.call_NC_nn nn, fun s => [s.cpu.sp - 1, s.cpu.sp - 2]),
   (.call_C_nn nn, fun s => [s.cpu.sp - 1, s.cpu.sp - 2])]

/-! ### What a row of an ALU or CB table says -/

/-- An addition with a carry in: the sum modulo 256, Z from it, N 0, H and C the carries out of bits 3 and 7; nothing else changes. -/
def AddLaw (r : Row (State → Byte)) (carry : State → Nat) : Prop :=
  r.Encoded ∧ ∀ s, ∃ a f, exec r.instr s = .next (withAF a f s) ∧
    a.toNat = (s.cpu.a.toNat + (r.arg s).toNat + carry s) % 256 ∧
    f = flagsOf (decide (a = 0)) false (decide (s.cpu.a.toNat % 16 + (r.arg s).toNat % 16 + carry s > 15))
      (decide (s.cpu.a.toNat + (r.arg s).toNat + carry s > 255))

/-- A subtraction with a borrow in: the difference modulo 256, Z from it, N 1, H and C the borrows; A is written or kept. -/
def SubLaw (r : Row (State → Byte)) (borrow : State → Int) (write : Bool) : Prop :=
  r.Encoded ∧ ∀ s, ∃ d f, exec r.instr s = .next (withAF (if write then d else s.cpu.a) f s) ∧
    (d.toNat : Int) = ((s.cpu.a.toNat : Int) - (r.arg s).toNat - borrow s) % 256 ∧
    f = flagsOf (decide (d = 0)) true
      (decide (((s.cpu.a.toNat % 16 : Nat) : Int) - ((r.arg s).toNat % 16 : Nat) - borrow s < 0))
      (decide ((s.cpu.a.toNat : Int) - (r.arg s).toNat - borrow s < 0))

/-- A bitwise operation: Z from the result, N and C 0, H as given. -/
def LogicLaw (r : Row (State → Byte)) (op : Byte → Byte → Byte) (h : Bool) : Prop :=
  r.Encoded ∧ ∀ s, exec r.instr s =
    .next (withAF (op s.cpu.a (r.arg s)) (flagsOf (decide (op s.cpu.a (r.arg s) = 0)) false h false) s)

/-- A CB rotate or shift: the operand is read, the result written to it, Z from the result, N and H 0, C as given. -/
def ShiftLaw (r : Row Op8) (res : Byte → Nat → Nat) (out : Byte → Bool) : Prop :=
  r.Encoded ∧ ∀ s, ∃ v, exec r.instr s =
      .next (withF (flagsOf (decide (v = 0)) false false (out (readOp8 r.arg s))) (writeOp8 r.arg v s)) ∧
    v.toNat = res (readOp8 r.arg s) (s.cpu.f.getLsbD 4).toNat

/-- The IO registers that store what is written, with their unused-bits mask (R45, R47). The APU's are listed in `apuMasks`. -/
def ioMasks : List (Word16 × Byte) :=
  [(0xFF01, 0x00), (0xFF02, 0x7E), (0xFF05, 0x00), (0xFF06, 0x00), (0xFF07, 0xF8), (0xFF0F, 0xE0), (0xFF40, 0x00),
   (0xFF42, 0x00), (0xFF43, 0x00), (0xFF45, 0x00), (0xFF47, 0x00), (0xFF48, 0x00), (0xFF49, 0x00), (0xFF4A, 0x00),
   (0xFF4B, 0x00), (0xFFFF, 0x00)]

/-- The APU registers with their unused-bits mask (R45, R47), NR52 apart. -/
def apuMasks : List (Word16 × Byte) :=
  [(0xFF10, 0x80), (0xFF11, 0x3F), (0xFF12, 0x00), (0xFF13, 0xFF), (0xFF14, 0xBF), (0xFF16, 0x3F), (0xFF17, 0x00),
   (0xFF18, 0xFF), (0xFF19, 0xBF), (0xFF1A, 0x7F), (0xFF1B, 0xFF), (0xFF1C, 0x9F), (0xFF1D, 0xFF), (0xFF1E, 0xBF),
   (0xFF20, 0xFF), (0xFF21, 0x00), (0xFF22, 0x00), (0xFF23, 0xBF), (0xFF24, 0x00), (0xFF25, 0x00)]

/-- The addresses of 0xFF00-0xFF7F and 0xFFFF that hold no register and no wave RAM (R45). -/
def Unmapped (a : Nat) : Prop :=
  a = 0xFF03 ∨ (0xFF08 ≤ a ∧ a ≤ 0xFF0E) ∨ a = 0xFF15 ∨ a = 0xFF1F ∨ (0xFF27 ≤ a ∧ a ≤ 0xFF2F) ∨ (0xFF4C ≤ a ∧ a ≤ 0xFF7F)

/-- The divider bit that TAC's clock select watches (R483). -/
def tapBit (clockSelect : BitVec 2) : Nat :=
  match clockSelect with
  | 0 => 9
  | 1 => 3
  | 2 => 5
  | 3 => 7

/-- A row of R151: a cartridge-type code, its mapper, whether its RAM is "yes" (MBC2's is internal), and its battery. -/
structure TypeRow where
  code : Nat
  kind : MapperKind
  ram : Bool
  battery : Bool

/-- The table of R151. -/
def typeRows : List TypeRow :=
  [⟨0x00, .mbc0, false, false⟩, ⟨0x01, .mbc1, false, false⟩, ⟨0x02, .mbc1, true, false⟩, ⟨0x03, .mbc1, true, true⟩,
   ⟨0x05, .mbc2, false, false⟩, ⟨0x06, .mbc2, false, true⟩, ⟨0x08, .mbc0, true, false⟩, ⟨0x09, .mbc0, true, true⟩,
   ⟨0x0F, .mbc3, false, true⟩, ⟨0x10, .mbc3, true, true⟩, ⟨0x11, .mbc3, false, false⟩, ⟨0x12, .mbc3, true, false⟩,
   ⟨0x13, .mbc3, true, true⟩]

/-- The RAM-size codes of R153 with their sizes in bytes. -/
def ramSizes : List (Nat × Nat) :=
  [(0, 0), (1, 2 * 1024), (2, 8 * 1024), (3, 32 * 1024), (4, 128 * 1024), (5, 64 * 1024)]

end Sys2Proof.Machine.Claims

open Sys2Proof Sys2Proof.Machine Sys2Proof.Machine.Claims

/-! ### Registers and loads -/

/-- R31: each register name is one register of the file, and the pair views alias the registers with the first-named one high, so that a write
to a half changes the pair and a write to a pair changes both halves and nothing else. R32: a write of AF stores F with its low four bits 0.
R177: the 8-bit operand forms that the statements on INC, DEC and the CB instructions use are a register, or the byte at H:L. The high and low
halves (R31) and the operand forms (R177) are what the spec marks as general knowledge. -/
def Obligations.RegistersAndOperandFormsAlias : Prop :=
  (∀ (s : State) (v : Byte),
    (∀ p ∈ [(Op8.b, Reg8.b), (.c, .c), (.d, .d), (.e, .e), (.h, .h), (.l, .l), (.a, .a)],
      readOp8 p.1 s = s.cpu.reg p.2 ∧ writeOp8 p.1 v s = { s with cpu := s.cpu.setReg p.2 v }) ∧
    readOp8 .mHL s = busRead (s.cpu.h ++ s.cpu.l) s ∧ writeOp8 .mHL v s = busWrite (s.cpu.h ++ s.cpu.l) v s) ∧
  ∀ (c : Cpu) (v : Byte) (w : Word16),
    (c.reg .b = c.b ∧ c.reg .c = c.c ∧ c.reg .d = c.d ∧ c.reg .e = c.e ∧ c.reg .h = c.h ∧ c.reg .l = c.l ∧ c.reg .a = c.a) ∧
    (c.setReg .b v = { c with b := v } ∧ c.setReg .c v = { c with c := v } ∧ c.setReg .d v = { c with d := v } ∧
      c.setReg .e v = { c with e := v } ∧ c.setReg .h v = { c with h := v } ∧ c.setReg .l v = { c with l := v } ∧
      c.setReg .a v = { c with a := v }) ∧
    (∀ r q, (c.setReg r v).reg q = if q = r then v else c.reg q) ∧
    (∀ r, (c.setReg r v).f = c.f ∧ (c.setReg r v).sp = c.sp ∧ (c.setReg r v).pc = c.pc ∧
      c.setReg r (c.reg r) = c) ∧
    (c.af = c.a ++ c.f ∧ c.bc = c.b ++ c.c ∧ c.de = c.d ++ c.e ∧ c.hl = c.h ++ c.l) ∧
    ((c.setReg .a v).af = v ++ c.f ∧ (c.setReg .b v).bc = v ++ c.c ∧ (c.setReg .c v).bc = c.b ++ v ∧
      (c.setReg .d v).de = v ++ c.e ∧ (c.setReg .e v).de = c.d ++ v ∧ (c.setReg .h v).hl = v ++ c.l ∧
      (c.setReg .l v).hl = c.h ++ v) ∧
    ((c.setBc w).bc = w ∧ (c.setDe w).de = w ∧ (c.setHl w).hl = w) ∧
    c.setBc w = { c with b := w.extractLsb' 8 8, c := w.extractLsb' 0 8 } ∧
    c.setDe w = { c with d := w.extractLsb' 8 8, e := w.extractLsb' 0 8 } ∧
    c.setHl w = { c with h := w.extractLsb' 8 8, l := w.extractLsb' 0 8 } ∧
    c.setAf w = { c with a := w.extractLsb' 8 8, f := w.extractLsb' 0 8 &&& 0xF0 }

/-- R200, R201, R202: the 8-bit register loads, with their whole effect. -/
def Obligations.RegisterLoadsWriteOneRegister : Prop :=
  (∀ r ∈ loadRowsB ++ loadRowsC ++ loadRowsD ++ loadRowsE ++ loadRowsH ++ loadRowsL ++ loadRowsA,
    r.Encoded ∧ ∀ s, exec r.instr s = .next { s with cpu := s.cpu.setReg r.arg.1 (s.cpu.reg r.arg.2) }) ∧
  (∀ n, ∀ r ∈ loadImmediateRows n, r.Encoded ∧ ∀ s, exec r.instr s = .next { s with cpu := s.cpu.setReg r.arg n }) ∧
  (∀ r ∈ loadHlRows, r.Encoded ∧ ∀ s, exec r.instr s = .next { s with cpu := s.cpu.setReg r.arg (atHl s) })

/-- R203, R204: LD (HL),r and LD (HL),n make one bus write and change nothing else. -/
def Obligations.StoresAtHlWriteOneByte : Prop :=
  ∀ n, ∀ r ∈ storeHlRows n, r.Encoded ∧ ∀ s, exec r.instr s = .next (busWrite (s.cpu.h ++ s.cpu.l) (r.arg s) s)

/-- R205 to R214: the loads of A from an address and the stores of A at one. -/
def Obligations.AccumulatorMemoryLoadsAndStores : Prop :=
  ∀ nn n,
    (∀ r ∈ loadARows nn n, r.Encoded ∧ ∀ s, exec r.instr s = .next { s with cpu := { s.cpu with a := busRead (r.arg s) s } }) ∧
    (∀ r ∈ storeARows nn n, r.Encoded ∧ ∀ s, exec r.instr s = .next (busWrite (r.arg s) s.cpu.a s))

/-- R215 to R218: the access is at the old HL, then HL moves by one, modulo 2^16. -/
def Obligations.LoadsThatMoveHl : Prop :=
  (∀ r ∈ storeMoveRows, r.Encoded ∧ ∀ s,
    let w := s.cpu.h ++ s.cpu.l + r.arg
    exec r.instr s = .next
      { busWrite (s.cpu.h ++ s.cpu.l) s.cpu.a s with cpu := { s.cpu with h := w.extractLsb' 8 8, l := w.extractLsb' 0 8 } }) ∧
  (∀ r ∈ loadMoveRows, r.Encoded ∧ ∀ s,
    let w := s.cpu.h ++ s.cpu.l + r.arg
    exec r.instr s = .next { s with cpu := { s.cpu with a := atHl s, h := w.extractLsb' 8 8, l := w.extractLsb' 0 8 } })

/-- R220, R221, R222: the 16-bit loads. LD (nn),SP stores the low byte at nn, then the high byte at nn+1 modulo 2^16. -/
def Obligations.SixteenBitLoads : Prop :=
  (∀ nn, ∀ r ∈ loadPairRows nn, r.Encoded ∧ ∀ s, exec r.instr s = .next { s with cpu := s.cpu.setPair r.arg nn }) ∧
  (∀ nn, (⟨.ld_mnn_SP nn, [0x08, lowByte nn, highByte nn], 20, ()⟩ : Row Unit).Encoded) ∧
  (∀ nn s, exec (.ld_mnn_SP nn) s =
    .next (busWrite (nn + 1) (s.cpu.sp.extractLsb' 8 8) (busWrite nn (s.cpu.sp.extractLsb' 0 8) s))) ∧
  (⟨.ld_SP_HL, [0xF9], 8, ()⟩ : Row Unit).Encoded ∧
  (∀ s, exec .ld_SP_HL s = .next { s with cpu := { s.cpu with sp := s.cpu.h ++ s.cpu.l } })

/-- R230 over the stack primitive of R229: PUSH stores the high byte at SP-1 and the low byte at SP-2 and moves SP down by two. -/
def Obligations.PushStoresHighByteFirst : Prop :=
  ∀ r ∈ pushRows, r.Encoded ∧ ∀ s,
    exec r.instr s = .next (pushed (s.cpu.stackPair r.arg) s) ∧
    s.cpu.stackPair .bc = s.cpu.b ++ s.cpu.c ∧ s.cpu.stackPair .de = s.cpu.d ++ s.cpu.e ∧
    s.cpu.stackPair .hl = s.cpu.h ++ s.cpu.l ∧ s.cpu.stackPair .af = s.cpu.a ++ s.cpu.f

/-- R231, R235 over the stack primitive of R229: POP reads the low byte at SP and the high byte at SP+1 into the low and the high register
of its pair and moves SP up by two; POP AF stores F with its low four bits 0. -/
def Obligations.PopReadsLowByteFirst : Prop :=
  (∀ r ∈ popRows, r.Encoded ∧ ∀ s,
    let lo := busRead s.cpu.sp s
    let hi := busRead (s.cpu.sp + 1) s
    exec r.instr s = .next { s with cpu := { s.cpu.setStackPair r.arg (hi ++ lo) with sp := s.cpu.sp + 2 } }) ∧
  (⟨.pop_AF, [0xF1], 12, ()⟩ : Row Unit).Encoded ∧
  (∀ s, exec .pop_AF s =
    .next { s with cpu := { s.cpu with
      a := busRead (s.cpu.sp + 1) s, f := busRead s.cpu.sp s &&& 0xF0, sp := s.cpu.sp + 2 } }) ∧
  ∀ (c : Cpu) (hi lo : Byte),
    c.setStackPair .bc (hi ++ lo) = { c with b := hi, c := lo } ∧ c.setStackPair .de (hi ++ lo) = { c with d := hi, e := lo } ∧
    c.setStackPair .hl (hi ++ lo) = { c with h := hi, l := lo } ∧
    c.setStackPair .af (hi ++ lo) = { c with a := hi, f := lo &&& 0xF0 }

/-! ### Arithmetic and logic -/

/-- R251, R252: the sum, its half carry and carry, in natural numbers; nothing else changes. -/
def Obligations.AdditionsAndTheirFlags : Prop :=
  ∀ n, (∀ r ∈ addRows n, AddLaw r (fun _ => 0)) ∧ (∀ r ∈ adcRows n, AddLaw r (fun s => (s.cpu.f.getLsbD 4).toNat))

/-- R253, R254, R258: the difference and its borrows, in integers; CP writes the flags only. -/
def Obligations.SubtractionsAndTheirFlags : Prop :=
  ∀ n, (∀ r ∈ subRows n, SubLaw r (fun _ => 0) true) ∧
    (∀ r ∈ sbcRows n, SubLaw r (fun s => (s.cpu.f.getLsbD 4).toNat) true) ∧
    (∀ r ∈ cpRows n, SubLaw r (fun _ => 0) false)

/-- R255, R256, R257: the bitwise operations; AND sets H. -/
def Obligations.LogicOperationsAndTheirFlags : Prop :=
  ∀ n, (∀ r ∈ andRows n, LogicLaw r (fun a b => a &&& b) true) ∧ (∀ r ∈ xorRows n, LogicLaw r (fun a b => a ^^^ b) false) ∧
    (∀ r ∈ orRows n, LogicLaw r (fun a b => a ||| b) false)

/-- R259 to R262: INC and DEC of a byte, C unchanged; the operand is read, then the result written to it. -/
def Obligations.ByteIncrementsAndDecrements : Prop :=
  (∀ r ∈ incRows, r.Encoded ∧ ∀ s, ∃ v, exec r.instr s =
      .next (withF (flagsOf (decide (v = 0)) false (decide ((readOp8 r.arg s).toNat % 16 = 15)) (s.cpu.f.getLsbD 4))
        (writeOp8 r.arg v s)) ∧
    v.toNat = ((readOp8 r.arg s).toNat + 1) % 256) ∧
  (∀ r ∈ decRows, r.Encoded ∧ ∀ s, ∃ v, exec r.instr s =
      .next (withF (flagsOf (decide (v = 0)) true (decide ((readOp8 r.arg s).toNat % 16 = 0)) (s.cpu.f.getLsbD 4))
        (writeOp8 r.arg v s)) ∧
    v.toNat = ((readOp8 r.arg s).toNat + 255) % 256)

/-- R263: DAA in natural numbers. After an addition the high adjustment comes first and the low test sees its result. -/
def Obligations.DecimalAdjustFollowsTheTable : Prop :=
  (⟨.daa, [0x27], 4, ()⟩ : Row Unit).Encoded ∧
  ∀ s, ∃ a f, exec .daa s = .next (withAF a f s) ∧
    (s.cpu.f.getLsbD 6 = false →
      let high := s.cpu.f.getLsbD 4 || decide (s.cpu.a.toNat > 0x99)
      let mid := if high then (s.cpu.a.toNat + 0x60) % 256 else s.cpu.a.toNat
      a.toNat = (if s.cpu.f.getLsbD 5 || decide (mid % 16 > 9) then (mid + 6) % 256 else mid) ∧
      f = flagsOf (decide (a = 0)) false false high) ∧
    (s.cpu.f.getLsbD 6 = true →
      let mid := if s.cpu.f.getLsbD 4 then (s.cpu.a.toNat + (256 - 0x60)) % 256 else s.cpu.a.toNat
      a.toNat = (if s.cpu.f.getLsbD 5 then (mid + (256 - 6)) % 256 else mid) ∧
      f = flagsOf (decide (a = 0)) true false (s.cpu.f.getLsbD 4))

/-- R264, R265, R266: CPL, SCF and CCF. -/
def Obligations.ComplementAndCarryFlagInstructions : Prop :=
  (⟨.cpl, [0x2F], 4, ()⟩ : Row Unit).Encoded ∧ (⟨.scf, [0x37], 4, ()⟩ : Row Unit).Encoded ∧
  (⟨.ccf, [0x3F], 4, ()⟩ : Row Unit).Encoded ∧
  ∀ s,
    (∃ a, exec .cpl s = .next (withAF a (flagsOf (s.cpu.f.getLsbD 7) true true (s.cpu.f.getLsbD 4)) s) ∧
      a.toNat = 255 - s.cpu.a.toNat) ∧
    exec .scf s = .next (withF (flagsOf (s.cpu.f.getLsbD 7) false false true) s) ∧
    exec .ccf s = .next (withF (flagsOf (s.cpu.f.getLsbD 7) false false (!(s.cpu.f.getLsbD 4))) s)

/-- R300, R301: INC rr and DEC rr modulo 2^16, no flag. -/
def Obligations.PairIncrementsAndDecrements : Prop :=
  (∀ r ∈ incPairRows, r.Encoded ∧ ∀ s, ∃ w, exec r.instr s = .next { s with cpu := s.cpu.setPair r.arg w } ∧
    w.toNat = ((s.cpu.pair r.arg).toNat + 1) % 65536) ∧
  (∀ r ∈ decPairRows, r.Encoded ∧ ∀ s, ∃ w, exec r.instr s = .next { s with cpu := s.cpu.setPair r.arg w } ∧
    w.toNat = ((s.cpu.pair r.arg).toNat + 65535) % 65536) ∧
  ∀ (c : Cpu) (w : Word16),
    c.pair .bc = c.b ++ c.c ∧ c.pair .de = c.d ++ c.e ∧ c.pair .hl = c.h ++ c.l ∧ c.pair .sp = c.sp ∧
    c.setPair .bc w = c.setBc w ∧ c.setPair .de w = c.setDe w ∧ c.setPair .hl w = c.setHl w ∧
    c.setPair .sp w = { c with sp := w }

/-- R302, R303, R304: ADD HL,rr carries out of bits 11 and 15 and keeps Z; ADD SP,e and LD HL,SP+e take their flags from the unsigned byte. -/
def Obligations.SixteenBitAdditions : Prop :=
  (∀ r ∈ addHlRows, r.Encoded ∧ ∀ s, ∃ w,
    exec r.instr s = .next (withF
      (flagsOf (s.cpu.f.getLsbD 7) false
        (decide ((s.cpu.h ++ s.cpu.l).toNat % 4096 + (s.cpu.pair r.arg).toNat % 4096 > 4095))
        (decide ((s.cpu.h ++ s.cpu.l).toNat + (s.cpu.pair r.arg).toNat > 65535)))
      { s with cpu := s.cpu.setHl w }) ∧
    w.toNat = ((s.cpu.h ++ s.cpu.l).toNat + (s.cpu.pair r.arg).toNat) % 65536) ∧
  (∀ e, (⟨.add_SP_e e, [0xE8, e], 16, ()⟩ : Row Unit).Encoded ∧ (⟨.ld_HL_SPe e, [0xF8, e], 12, ()⟩ : Row Unit).Encoded) ∧
  ∀ e s, ∃ w f,
    exec (.add_SP_e e) s = .next { s with cpu := { s.cpu with sp := w, f := f } } ∧
    exec (.ld_HL_SPe e) s = .next { s with cpu := { s.cpu.setHl w with f := f } } ∧
    (w.toNat : Int) = ((s.cpu.sp.toNat : Int) + e.toInt) % 65536 ∧
    f = flagsOf false false (decide (s.cpu.sp.toNat % 16 + e.toNat % 16 > 15)) (decide (s.cpu.sp.toNat % 256 + e.toNat > 255))

/-! ### Rotates, shifts, bits -/

/-- R320 to R323: the accumulator rotates clear Z whatever the result. -/
def Obligations.AccumulatorRotatesClearZ : Prop :=
  (⟨.rlca, [0x07], 4, ()⟩ : Row Unit).Encoded ∧ (⟨.rrca, [0x0F], 4, ()⟩ : Row Unit).Encoded ∧
  (⟨.rla, [0x17], 4, ()⟩ : Row Unit).Encoded ∧ (⟨.rra, [0x1F], 4, ()⟩ : Row Unit).Encoded ∧
  ∀ s, ∃ a1 a2 a3 a4,
    exec .rlca s = .next (withAF a1 (flagsOf false false false (s.cpu.a.getLsbD 7)) s) ∧
    exec .rrca s = .next (withAF a2 (flagsOf false false false (s.cpu.a.getLsbD 0)) s) ∧
    exec .rla s = .next (withAF a3 (flagsOf false false false (s.cpu.a.getLsbD 7)) s) ∧
    exec .rra s = .next (withAF a4 (flagsOf false false false (s.cpu.a.getLsbD 0)) s) ∧
    a1.toNat = s.cpu.a.toNat * 2 % 256 + (s.cpu.a.getLsbD 7).toNat ∧
    a2.toNat = s.cpu.a.toNat / 2 + 128 * (s.cpu.a.getLsbD 0).toNat ∧
    a3.toNat = s.cpu.a.toNat * 2 % 256 + (s.cpu.f.getLsbD 4).toNat ∧
    a4.toNat = s.cpu.a.toNat / 2 + 128 * (s.cpu.f.getLsbD 4).toNat

/-- R325 to R328: the CB rotates, on every operand: the operand is read, then the result written to it. -/
def Obligations.RotatesOnEveryOperand : Prop :=
  (∀ r ∈ rlcRows, ShiftLaw r (fun v _ => v.toNat * 2 % 256 + (v.getLsbD 7).toNat) (fun v => v.getLsbD 7)) ∧
  (∀ r ∈ rrcRows, ShiftLaw r (fun v _ => v.toNat / 2 + 128 * (v.getLsbD 0).toNat) (fun v => v.getLsbD 0)) ∧
  (∀ r ∈ rlRows, ShiftLaw r (fun v c => v.toNat * 2 % 256 + c) (fun v => v.getLsbD 7)) ∧
  (∀ r ∈ rrRows, ShiftLaw r (fun v c => v.toNat / 2 + 128 * c) (fun v => v.getLsbD 0))

/-- R329 to R332: the CB shifts and SWAP, on every operand. -/
def Obligations.ShiftsOnEveryOperand : Prop :=
  (∀ r ∈ slaRows, ShiftLaw r (fun v _ => v.toNat * 2 % 256) (fun v => v.getLsbD 7)) ∧
  (∀ r ∈ sraRows, ShiftLaw r (fun v _ => v.toNat / 2 + 128 * (v.getLsbD 7).toNat) (fun v => v.getLsbD 0)) ∧
  (∀ r ∈ swapRows, ShiftLaw r (fun v _ => v.toNat % 16 * 16 + v.toNat / 16) (fun _ => false)) ∧
  (∀ r ∈ srlRows, ShiftLaw r (fun v _ => v.toNat / 2) (fun v => v.getLsbD 0))

/-- R333: BIT writes Z, N and H and nothing else, on every bit and operand. -/
def Obligations.BitTestsWriteFlagsOnly : Prop :=
  ∀ r ∈ bitRowsB ++ bitRowsC ++ bitRowsD ++ bitRowsE ++ bitRowsH ++ bitRowsL ++ bitRowsHl ++ bitRowsA,
    r.Encoded ∧ ∀ s, exec r.instr s =
      .next (withF (flagsOf (!((readOp8 r.arg.2 s).getLsbD r.arg.1)) false true (s.cpu.f.getLsbD 4)) s)

/-- R334, R335: RES and SET change one bit of their operand and no flag. -/
def Obligations.ResAndSetChangeOneBit : Prop :=
  (∀ r ∈ resRowsB ++ resRowsC ++ resRowsD ++ resRowsE ++ resRowsH ++ resRowsL ++ resRowsHl ++ resRowsA,
    r.Encoded ∧ ∀ s, ∃ v, exec r.instr s = .next (writeOp8 r.arg.2 v s) ∧
      ∀ i < 8, v.getLsbD i = ((readOp8 r.arg.2 s).getLsbD i && decide (i ≠ r.arg.1))) ∧
  (∀ r ∈ setRowsB ++ setRowsC ++ setRowsD ++ setRowsE ++ setRowsH ++ setRowsL ++ setRowsHl ++ setRowsA,
    r.Encoded ∧ ∀ s, ∃ v, exec r.instr s = .next (writeOp8 r.arg.2 v s) ∧
      ∀ i < 8, v.getLsbD i = ((readOp8 r.arg.2 s).getLsbD i || decide (i = r.arg.1)))

/-! ### Control transfer, system -/

/-- R371 to R375: the jumps write PC and nothing else; a false condition changes nothing. -/
def Obligations.JumpsWritePcOnly : Prop :=
  (∀ nn, (⟨.jp_nn nn, [0xC3, lowByte nn, highByte nn], 16, ()⟩ : Row Unit).Encoded ∧
    ∀ s, exec (.jp_nn nn) s = .next { s with cpu := { s.cpu with pc := nn } }) ∧
  (∀ nn, ∀ r ∈ jpCondRows nn, r.Encoded ∧ ∀ s,
    (Holds r.cc s.cpu → exec r.instr s = .next { s with cpu := { s.cpu with pc := nn } }) ∧
    (¬Holds r.cc s.cpu → exec r.instr s = .next s)) ∧
  ((⟨.jp_mHL, [0xE9], 4, ()⟩ : Row Unit).Encoded ∧
    ∀ s, exec .jp_mHL s = .next { s with cpu := { s.cpu with pc := s.cpu.h ++ s.cpu.l } }) ∧
  (∀ e, (⟨.jr_e e, [0x18, e], 12, ()⟩ : Row Unit).Encoded ∧ ∀ s, ∃ t,
    exec (.jr_e e) s = .next { s with cpu := { s.cpu with pc := t } } ∧
    (t.toNat : Int) = ((s.cpu.pc.toNat : Int) + e.toInt) % 65536) ∧
  (∀ e, ∀ r ∈ jrCondRows e, r.Encoded ∧ ∀ s,
    (Holds r.cc s.cpu → ∃ t, exec r.instr s = .next { s with cpu := { s.cpu with pc := t } } ∧
      (t.toNat : Int) = ((s.cpu.pc.toNat : Int) + e.toInt) % 65536) ∧
    (¬Holds r.cc s.cpu → exec r.instr s = .next s))

/-- R376, R377, R381: CALL and RST push PC, the address after the instruction, and jump; a call not taken changes nothing. -/
def Obligations.CallsPushTheReturnAddress : Prop :=
  (∀ nn, (⟨.call_nn nn, [0xCD, lowByte nn, highByte nn], 24, ()⟩ : Row Unit).Encoded ∧
    ∀ s, exec (.call_nn nn) s = .next { pushed s.cpu.pc s with cpu := { s.cpu with sp := s.cpu.sp - 2, pc := nn } }) ∧
  (∀ nn, ∀ r ∈ callCondRows nn, r.Encoded ∧ ∀ s,
    (Holds r.cc s.cpu → exec r.instr s =
      .next { pushed s.cpu.pc s with cpu := { s.cpu with sp := s.cpu.sp - 2, pc := nn } }) ∧
    (¬Holds r.cc s.cpu → exec r.instr s = .next s)) ∧
  (∀ r ∈ rstRows, r.Encoded ∧ ∀ s,
    exec r.instr s = .next { pushed s.cpu.pc s with cpu := { s.cpu with sp := s.cpu.sp - 2, pc := r.arg } })

/-- R378, R379, R380 over the stack primitive of R229: RET pops PC; RETI sets IME at once besides. That RETI's IME has no delay is what R380 marks
as general knowledge (K24). -/
def Obligations.ReturnsPopThePc : Prop :=
  let popped := fun (s : State) => busRead (s.cpu.sp + 1) s ++ busRead s.cpu.sp s
  ((⟨.ret, [0xC9], 16, ()⟩ : Row Unit).Encoded ∧
    ∀ s, exec .ret s = .next { s with cpu := { s.cpu with pc := popped s, sp := s.cpu.sp + 2 } }) ∧
  (∀ r ∈ retCondRows, r.Encoded ∧ ∀ s,
    (Holds r.cc s.cpu → exec r.instr s = .next { s with cpu := { s.cpu with pc := popped s, sp := s.cpu.sp + 2 } }) ∧
    (¬Holds r.cc s.cpu → exec r.instr s = .next s)) ∧
  ((⟨.reti, [0xD9], 16, ()⟩ : Row Unit).Encoded ∧
    ∀ s, exec .reti s = .next { s with cpu := { s.cpu with pc := popped s, sp := s.cpu.sp + 2, ime := true } })

/-- R400, R402, R403, R404: NOP, STOP, DI and EI. STOP rests on the spec's decision D5, EI before DI on D7; that DI clears `ei_pending` is
how the model writes the DI clause of R404 (log 6). -/
def Obligations.NopStopDiAndEi : Prop :=
  (⟨.nop, [0x00], 4, ()⟩ : Row Unit).Encoded ∧ (∀ x, (⟨.stop x, [0x10, x], 4, ()⟩ : Row Unit).Encoded) ∧
  (⟨.di, [0xF3], 4, ()⟩ : Row Unit).Encoded ∧ (⟨.ei, [0xFB], 4, ()⟩ : Row Unit).Encoded ∧
  ∀ s,
    exec .nop s = .next s ∧
    (∀ x, exec (.stop x) s = .next { s with cpu := { s.cpu with stopped := true } }) ∧
    exec .di s = .next { s with cpu := { s.cpu with ime := false, enableNext := false, eiPending := false } } ∧
    exec .ei s = .next { s with cpu := { s.cpu with enableNext := true } }

/-- R401: HALT by the three cases of its rule; every case changes the CPU's suspension bits only. That a pending EI counts as enabled is the
spec's decision D6. -/
def Obligations.HaltSuspendsOrSetsTheHaltBug : Prop :=
  (⟨.halt, [0x76], 4, ()⟩ : Row Unit).Encoded ∧
  ∀ s,
    ((s.cpu.ime = true ∨ s.cpu.eiPending = true) →
      exec .halt s = .next { s with cpu := { s.cpu with halt := true, haltDI := false } }) ∧
    (s.cpu.ime = false → s.cpu.eiPending = false →
      ((∃ k < 5, s.ie.getLsbD k = true ∧ s.iflag.getLsbD k = true) →
        exec .halt s = .next { s with cpu := { s.cpu with haltBug := true } }) ∧
      ((∀ k < 5, s.ie.getLsbD k = false ∨ s.iflag.getLsbD k = false) →
        exec .halt s = .next { s with cpu := { s.cpu with halt := true, haltDI := true } }))

/-- R183, R426, R430: an invalid opcode raises Locked with its byte, in `exec` and in a step that fetches it, and a locked machine has no
further step (the spec's decision D4); as an operand the byte is an ordinary immediate. -/
def Obligations.InvalidOpcodesLockUp : Prop :=
  (∀ r ∈ invalidRows, encode r.instr = r.bytes ∧ decode r.bytes = .ok (r.instr, []) ∧
    (∀ s, exec r.instr s = .fault (.locked r.arg)) ∧
    (∀ s, Running s → busRead s.cpu.pc s = r.arg → step s = .fault (.locked r.arg)) ∧
    decode [0x3E, r.arg] = .ok (.ld_A_n r.arg, [])) ∧
  (∀ s op, s.cpu.locked = some op → step s = .fault (.locked op)) ∧
  (∀ b0 b1 b2, (decodeBytes b0 b1 b2).1.wellFormed = false ↔ b0 ∈ invalidOpcodes)

/-- R430: the only way a step ends without a next state is Locked: by an invalid opcode under PC, or because the machine is locked already. -/
def Obligations.AStepStopsOnlyByLocking : Prop :=
  ∀ s, (∃ t, step s = .next t) ∨
    (∃ op, s.cpu.locked = some op ∧ step s = .fault (.locked op)) ∨
    (Running s ∧ busRead s.cpu.pc s ∈ invalidOpcodes ∧ step s = .fault (.locked (busRead s.cpu.pc s)))

/-! ### Encoding -/

/-- Decoding what the encoder gives, with any bytes after it, gives the instruction back with every operand. -/
def Obligations.DecodeOfEncodeIsTheInstruction : Prop :=
  ∀ (i : Instr) (rest : List Byte), decode (encode i ++ rest) = .ok (i, rest)

/-- Encoding what the decoder reads gives the bytes back: no two byte sequences decode to one instruction. -/
def Obligations.EncodeOfDecodeIsTheBytes : Prop :=
  ∀ b0 b1 b2, encode (decodeBytes b0 b1 b2).1 = [b0, b1, b2].take (decodeBytes b0 b1 b2).2

/-- A few words written out from R171 to R176 decode to the instruction they stand for. -/
def Obligations.SampleWordsDecode : Prop :=
  decode [0b01001000] = .ok (.ld_C_B, []) ∧ decode [0b00111110, 0x3C] = .ok (.ld_A_n 0x3C, []) ∧
  decode [0b00010001, 0x34, 0x12] = .ok (.ld_DE_nn 0x1234, []) ∧ decode [0b10011110] = .ok (.sbc_A_mHL, []) ∧
  decode [0b11101110, 0x0F] = .ok (.xor_n 0x0F, []) ∧ decode [0b00101000, 0xFC] = .ok (.jr_Z_e 0xFC, []) ∧
  decode [0b11011100, 0x00, 0x30] = .ok (.call_C_nn 0x3000, []) ∧ decode [0b11101111] = .ok (.rst_28h, []) ∧
  decode [0b11001011, 0b01111100] = .ok (.bit_7_H, []) ∧ decode [0b11001011, 0b00011110] = .ok (.rr_mHL, []) ∧
  decode [0b01110110] = .ok (.halt, []) ∧ decode [0b11110001] = .ok (.pop_AF, [])

/-! ### The step -/

/-- When the CPU runs and the bytes at PC decode to i, a step is exec of i on the state with PC past the instruction's bytes (R35), the HALT
bug spent (R41) and the EI latch taken (R404), then the EI rule, the devices' cycles and the interrupt check; a fault ends it at once. The model's
choices: the latch field, its clearing when the EI rule has run, and DI's exception standing in DI's own meaning (log 6); the cost kept apart
from `exec` (log 16); the three bytes that the fetch looks at (log 17). -/
def Obligations.StepRunsTheDecodedInstruction : Prop :=
  ∀ s i rest, Running s →
    let next := if s.cpu.haltBug then s.cpu.pc else s.cpu.pc + 1
    decode [busRead s.cpu.pc s, busRead next s, busRead (next + 1) s] = .ok (i, rest) →
    let s1 := { s with cpu := { s.cpu with
      pc := next + BitVec.ofNat 16 (2 - rest.length), haltBug := false, eiPending := s.cpu.enableNext, enableNext := false } }
    (∀ t, exec i s1 = .next t →
      step s = .next (interruptCheck (updateCycles (cost i s1)
        (if t.cpu.eiPending then { t with cpu := { t.cpu with ime := true, eiPending := false } } else t)))) ∧
    (∀ f, exec i s1 = .fault f → step s = .fault f)

/-- A stopped or halted CPU idles: 4 cycles pass, no instruction runs, and only the halted one checks interrupts (R401, R402, R690; STOP by the
spec's decision D5). -/
def Obligations.SuspendedStepsIdleFourCycles : Prop :=
  ∀ s, s.cpu.locked = none →
    (s.cpu.stopped = true → step s = .next (updateCycles 4 s)) ∧
    (s.cpu.stopped = false → s.cpu.halt = true → step s = .next (interruptCheck (updateCycles 4 s)))

/-- R404: after EI the next instruction sets IME when it completes, before that step's interrupt check, unless it is DI; and with no EI before
it, an instruction's own IME stands. The delay by `enable_next` is the spec's decision D6, the DI case D7; that `ei_pending` is a field, cleared by the EI
rule and by DI, is the model's choice (log 6). -/
def Obligations.EiTakesEffectAfterTheNextInstruction : Prop :=
  ∀ s t, Running s → exec (fetched s).1 (afterFetch s) = .next t →
    (s.cpu.enableNext = true → (fetched s).1 ≠ .di →
      step s = .next (interruptCheck (updateCycles (cost (fetched s).1 (afterFetch s))
        { t with cpu := { t.cpu with ime := true, eiPending := false } }))) ∧
    ((s.cpu.enableNext = false ∨ (fetched s).1 = .di) →
      step s = .next (interruptCheck (updateCycles (cost (fetched s).1 (afterFetch s)) t)) ∧ t.cpu.eiPending = false) ∧
    ((fetched s).1 = .di → t.cpu.ime = false ∧ t.cpu.enableNext = false) ∧
    ((fetched s).1 = .ei → t.cpu.ime = s.cpu.ime ∧ t.cpu.enableNext = true)

/-- R434, R440, R441, R442: the lowest pending and enabled source k is dispatched when IME is 1: its IF bit, IME, enable_next, halt and
halt_DI are cleared, PC is pushed, control goes to 0x40 + 8k, and 20 cycles pass; with IME 0 a halted CPU wakes without service; else nothing. The
spec's decisions D3, D5, D6, D8, D48. -/
def Obligations.InterruptCheckDispatchesTheLowestSource : Prop :=
  ∀ s, (s.cpu.locked ≠ none ∨ s.cpu.stopped = true → interruptCheck s = s) ∧
    ((∀ k < 5, s.ie.getLsbD k = false ∨ s.iflag.getLsbD k = false) → interruptCheck s = s) ∧
    (s.cpu.locked = none → s.cpu.stopped = false → ∀ k < 5, s.ie.getLsbD k = true → s.iflag.getLsbD k = true →
      (∀ j < k, s.ie.getLsbD j = false ∨ s.iflag.getLsbD j = false) →
      (s.cpu.ime = true → ∃ fl : BitVec 5, (∀ j < 5, fl.getLsbD j = (s.iflag.getLsbD j && decide (j ≠ k))) ∧
        interruptCheck s = updateCycles 20
          { busWrite (s.cpu.sp - 2) (lowByte s.cpu.pc) (busWrite (s.cpu.sp - 1) (highByte s.cpu.pc) { s with iflag := fl }) with
            cpu := { s.cpu with
              ime := false, enableNext := false, halt := false, haltDI := false
              sp := s.cpu.sp - 2, pc := BitVec.ofNat 16 (0x40 + 8 * k) } }) ∧
      (s.cpu.ime = false → s.cpu.halt = true →
        interruptCheck s = { s with cpu := { s.cpu with halt := false, haltDI := false } }) ∧
      (s.cpu.ime = false → s.cpu.halt = false → interruptCheck s = s))

/-! ### The bus -/

/-- R45, R102, R104 to R108, R143, R640: what a bus read returns, region by region; where the gate is open, what it would return with no transfer
active, which gives the registers and external RAM (IoRegistersReadBackOrTheirMask, MapperWritesAndExternalRam). Wave RAM is open while ch3 is
silent; while it plays, the byte of the one log slot of this cycle, or 0xFF. The spec's decisions: the DMA gate D13, the bank modulus D17, the
unmapped addresses D11, the wave coincidence D31 and wave RAM with the power off D35; which slot answers when both match (log 18) is not stated. -/
def Obligations.BusReadsFollowTheRegionMap : Prop :=
  ∀ (s : State) (a : Word16),
    (¬GateOpen a s → busRead a s = 0xFF) ∧
    (GateOpen a s →
      (a.toNat < 0x4000 → busRead a s = s.cart.rom.read a.toNat) ∧
      (0x4000 ≤ a.toNat → a.toNat < 0x8000 →
        busRead a s = s.cart.rom.read (s.mapper.romBank.toNat % (s.cart.romSize / 16384) * 0x4000 + (a.toNat - 0x4000))) ∧
      (0x8000 ≤ a.toNat → a.toNat < 0xA000 →
        busRead a s = if s.ppu.mode = .transfer then 0xFF else s.vram.read (a.toNat - 0x8000)) ∧
      (0xC000 ≤ a.toNat → a.toNat < 0xE000 → busRead a s = s.wram.read (a.toNat - 0xC000)) ∧
      (0xE000 ≤ a.toNat → a.toNat < 0xFE00 → busRead a s = s.wram.read (a.toNat - 0xE000)) ∧
      (0xFE00 ≤ a.toNat → a.toNat < 0xFEA0 →
        busRead a s = if s.ppu.mode = .oamScan ∨ s.ppu.mode = .transfer then 0xFF else s.oam.read (a.toNat - 0xFE00)) ∧
      (0xFEA0 ≤ a.toNat → a.toNat < 0xFF00 → busRead a s = 0x00) ∧
      (Unmapped a.toNat → busRead a s = 0xFF) ∧
      (0xFF30 ≤ a.toNat → a.toNat < 0xFF40 →
        let ch := s.apu.ch3
        (ch.status = false → busRead a s = ch.ram.read (a.toNat - 0xFF30)) ∧
        (ch.status = true → ch.log0.time = some s.cycles → ch.log1.time ≠ some s.cycles → busRead a s = ch.log0.byte) ∧
        (ch.status = true → ch.log0.time ≠ some s.cycles → ch.log1.time = some s.cycles → busRead a s = ch.log1.byte) ∧
        (ch.status = true → ch.log0.time ≠ some s.cycles → ch.log1.time ≠ some s.cycles → busRead a s = 0xFF)) ∧
      (0xFF80 ≤ a.toNat → a.toNat < 0xFFFF → busRead a s = s.hram.read (a.toNat - 0xFF80)) ∧
      busRead a s = busRead a { s with dma := { s.dma with active := false } })

/-- R45, R71, R103, R104 to R108, R532, R640: what a bus write does, region by region; where the gate is open, what it would do with no transfer
active (but to the DMA register itself, DmaCopiesOamIn648Cycles), which gives the registers and external RAM. Wave RAM is written while ch3 is
silent; while it plays, a write lands at the playing position, and only in the cycle of a logged sample. The spec's decisions: a gated write is dropped
D13, a write to an unmapped address D11, to LY D45, the wave coincidence D31 and wave RAM with the power off D35. -/
def Obligations.BusWritesFollowTheRegionMap : Prop :=
  ∀ (s : State) (a : Word16) (v : Byte),
    (¬GateOpen a s → busWrite a v s = s) ∧
    (GateOpen a s →
      (a.toNat < 0x8000 → busWrite a v s = { s with mapper := s.mapper.write s.cart.kind a v }) ∧
      (0x8000 ≤ a.toNat → a.toNat < 0xA000 →
        busWrite a v s = if s.ppu.mode = .transfer then s else { s with vram := s.vram.write (a.toNat - 0x8000) v }) ∧
      (0xC000 ≤ a.toNat → a.toNat < 0xE000 → busWrite a v s = { s with wram := s.wram.write (a.toNat - 0xC000) v }) ∧
      (0xE000 ≤ a.toNat → a.toNat < 0xFE00 → busWrite a v s = { s with wram := s.wram.write (a.toNat - 0xE000) v }) ∧
      (0xFE00 ≤ a.toNat → a.toNat < 0xFEA0 →
        busWrite a v s =
          if s.ppu.mode = .oamScan ∨ s.ppu.mode = .transfer then s else { s with oam := s.oam.write (a.toNat - 0xFE00) v }) ∧
      (0xFEA0 ≤ a.toNat → a.toNat < 0xFF00 → busWrite a v s = s) ∧
      (Unmapped a.toNat ∨ a.toNat = 0xFF44 → busWrite a v s = s) ∧
      (0xFF30 ≤ a.toNat → a.toNat < 0xFF40 →
        let ch := s.apu.ch3
        let stored := fun (k : Nat) => { s with apu := { s.apu with ch3 := { ch with ram := ch.ram.write k v } } }
        (ch.status = false → busWrite a v s = stored (a.toNat - 0xFF30)) ∧
        (ch.status = true → (ch.log0.time = some s.cycles ∨ ch.log1.time = some s.cycles) →
          busWrite a v s = stored (ch.position.toNat / 2)) ∧
        (ch.status = true → ch.log0.time ≠ some s.cycles → ch.log1.time ≠ some s.cycles → busWrite a v s = s)) ∧
      (0xFF80 ≤ a.toNat → a.toNat < 0xFFFF → busWrite a v s = { s with hram := s.hram.write (a.toNat - 0xFF80) v }) ∧
      (a.toNat ≠ 0xFF46 → busWrite a v s = { busWrite a v { s with dma := { s.dma with active := false } } with dma := s.dma }))

/-- A byte written through one reachable address of plain memory is read back through every reachable address of the same cell, the echo of
work RAM among them (R107); an MBC2 cell keeps four bits and reads bits 7:4 as 0 (R141, the spec's decision D19). Reachable is past the DMA gate (D13)
and the PPU's. -/
def Obligations.PlainMemoryReadsBackWhatWasWritten : Prop :=
  ∀ (s : State) (a b : Word16) (v : Byte) (bank : Bank) (k : Nat),
    reachable a s = true → reachable b s = true → cellOf a s = some (bank, k) → cellOf b s = some (bank, k) →
    busRead b (busWrite a v s) = if bank = .eram ∧ s.cart.kind = .mbc2 then v &&& 0x0F else v

/-- The frame of the storing forms: when every address the form stores to is plain memory, a byte of any other cell reads as before. -/
def Obligations.StoringFormsLeaveOtherBytesAlone : Prop :=
  ∀ nn n, ∀ p ∈ storeFormsHl n ++ storeFormsCb ++ storeFormsBits ++ storeFormsA nn n ++ storeFormsStack nn ++ storeFormsCall nn,
    ∀ s t, exec p.1 s = .next t →
      (∀ a ∈ p.2 s, cellOf a s ≠ none) →
      ∀ b, (∀ a ∈ p.2 s, cellOf a s ≠ cellOf b s) → busRead b t = busRead b s

/-- What no bus write changes: the CPU, the cartridge, the outputs, the keys, the cycle counter; and no write outside a memory's own region
changes that memory. -/
def Obligations.BusWritesKeepTheRestOfTheMachine : Prop :=
  ∀ (s : State) (a : Word16) (v : Byte),
    let t := busWrite a v s
    (t.cpu = s.cpu ∧ t.cart = s.cart ∧ t.framebuffer = s.framebuffer ∧ t.samples = s.samples ∧ t.events = s.events ∧
      t.cycles = s.cycles ∧ t.joypad.keys = s.joypad.keys) ∧
    (0x8000 ≤ a.toNat → t.mapper = s.mapper) ∧
    (¬(0x8000 ≤ a.toNat ∧ a.toNat < 0xA000) → t.vram = s.vram) ∧
    (¬(0xA000 ≤ a.toNat ∧ a.toNat < 0xC000) → t.eram = s.eram) ∧
    (¬(0xC000 ≤ a.toNat ∧ a.toNat < 0xFE00) → t.wram = s.wram) ∧
    (¬(0xFE00 ≤ a.toNat ∧ a.toNat < 0xFEA0) → t.oam = s.oam) ∧
    (¬(0xFF80 ≤ a.toNat ∧ a.toNat < 0xFFFF) → t.hram = s.hram) ∧
    (a.toNat < 0xFF00 → t.ie = s.ie ∧ t.iflag = s.iflag ∧ t.timer = s.timer ∧ t.serial = s.serial ∧ t.joypad = s.joypad ∧
      t.dma = s.dma ∧ t.ppu = s.ppu ∧ t.apu = s.apu)

/-- R46 with the masks of R47: a register read after a write gives the value OR its mask, the APU's while it is powered. JOYP and STAT do so in
their stored bits. -/
def Obligations.IoRegistersReadBackOrTheirMask : Prop :=
  ∀ (s : State) (v : Byte), s.dma.active = false →
    (∀ p ∈ ioMasks, busRead p.1 (busWrite p.1 v s) = v ||| p.2) ∧
    (s.apu.powered = true → ∀ p ∈ apuMasks, busRead p.1 (busWrite p.1 v s) = v ||| p.2) ∧
    (busRead 0xFF00 (busWrite 0xFF00 v s) &&& 0xF0 = (v &&& 0x30 ||| 0xC0)) ∧
    (busRead 0xFF41 (busWrite 0xFF41 v s) &&& 0xF8 = (v &&& 0x78 ||| 0x80))

/-! ### Devices -/

/-- R481, R482, R483: one timer step, bit by bit: a pending overflow reloads TIMA and raises the Timer interrupt, then the divider moves by 4
and TIMA counts when the tap bit falls. -/
def Obligations.TimerStepReloadsThenCounts : Prop :=
  ∀ s, let t := timerStep s
    let due := s.timer.on && s.timer.timaOverflow
    let falls := s.timer.on && s.timer.divCounter.getLsbD (tapBit s.timer.clockSelect) &&
      !((s.timer.divCounter + 4).getLsbD (tapBit s.timer.clockSelect))
    let base := if due then s.timer.tma else s.timer.tima
    t = { s with
      timer := { s.timer with
        divCounter := s.timer.divCounter + 4
        tima := if falls then base + 1 else base
        timaOverflow := (s.timer.timaOverflow && !due) || (falls && decide (base = 0xFF)) }
      iflag := if due then s.iflag ||| 0b00100 else s.iflag }

/-- R484 to R487: the timer's register writes (the spec's decisions D21, D22, D51). -/
def Obligations.TimerRegisterWrites : Prop :=
  ∀ (s : State) (v : Byte), s.dma.active = false →
    let tap := s.timer.divCounter.getLsbD (tapBit s.timer.clockSelect)
    let newTap := s.timer.divCounter.getLsbD (tapBit (v.extractLsb' 0 2))
    let count := fun (c : Bool) (t : Timer) =>
      if c then { t with tima := t.tima + 1, timaOverflow := t.timaOverflow || decide (t.tima = 0xFF) } else t
    busWrite 0xFF04 v s = { s with timer := count (s.timer.on && tap) { s.timer with divCounter := 0 } } ∧
    busWrite 0xFF05 v s = { s with timer := { s.timer with tima := v, timaOverflow := false } } ∧
    busWrite 0xFF06 v s = { s with timer := { s.timer with tma := v } } ∧
    busWrite 0xFF07 v s =
      { s with
        timer := count ((s.timer.on && tap) && !(v.getLsbD 2 && newTap))
          { s.timer with on := v.getLsbD 2, clockSelect := v.extractLsb' 0 2 } }

/-- R500 to R503: a write of V to 0xFF46 starts a transfer, and 648 cycles later OAM holds the 160 bytes from V<<8 and the engine is inactive;
nothing but OAM and the engine changes. Byte k comes from the ungated source map of R503. The spec's decision D14. -/
def Obligations.DmaCopiesOamIn648Cycles : Prop :=
  (∀ (s : State) (v : Byte), GateOpen 0xFF46 s →
    let start := busWrite 0xFF46 v s
    let t := dmaUpdate 648 start
    (start.dma.active = true ∧ start.dma.reg = v ∧ ∀ n < 648, (dmaUpdate n start).dma.active = true) ∧
    t.dma.active = false ∧
    (∀ k < 160, t.oam.read k = dmaSourceRead (v ++ 0#8 + BitVec.ofNat 16 k) s) ∧
    t = { s with dma := t.dma, oam := t.oam }) ∧
  (∀ (s : State) (a : Word16),
    (0xFE00 ≤ a.toNat → dmaSourceRead a s = 0xFF) ∧
    (a.toNat < 0xFE00 → dmaSourceRead a s = busRead a { s with dma.active := false, ppu.mode := .hBlank }))

/-- R520, R521, R522, R533: with the display on, n cycles move the position (LY, line_cycle) by n around the 70,224 cycles of a frame, a frame
is counted at each wrap, and the VBlank bit of IF is set exactly by the cycle that reaches line 144; with the display off (R535, the spec's decision
D24) no PPU cycle changes IF. -/
def Obligations.PpuPositionAdvancesRoundTheFrame : Prop :=
  (∀ s, PpuOk s → s.ppu.displayOn = true →
    let pos := fun (u : State) => u.ppu.ly.toNat * 456 + u.ppu.lineCycle
    (∀ n, let t := ppuUpdate n s
      t.ppu.displayOn = true ∧ pos t = (pos s + n) % 70224 ∧ t.ppu.frameCounter = s.ppu.frameCounter + (pos s + n) / 70224) ∧
    (ppuCycle s).iflag.getLsbD 0 = (s.iflag.getLsbD 0 || decide (pos s + 1 = 144 * 456))) ∧
  ∀ s, s.ppu.displayOn = false → (ppuCycle s).iflag = s.iflag

/-- R535: an LCDC write that switches the display off or on, and one that does neither; the other LCDC bits are stored in every case. The spec's
decision D24. -/
def Obligations.LcdcWriteSwitchesTheDisplay : Prop :=
  ∀ (s : State) (v : Byte), s.dma.active = false →
    let t := busWrite 0xFF40 v s
    t.ppu.lcdc = v ∧
    (s.ppu.lcdc.getLsbD 7 = true → v.getLsbD 7 = false →
      t = { s with ppu := { s.ppu with lcdc := v, mode := .vBlank, ly := 0, lineCycle := 0, fakeLy := 0 } }) ∧
    (s.ppu.lcdc.getLsbD 7 = false → v.getLsbD 7 = true →
      t = { s with
        ppu := { s.ppu with
          lcdc := v, mode := .oamScan, ly := 0, lineCycle := 0, cachedWy := s.ppu.wy, windowLine := 0
          coincidence := decide (s.ppu.lyc = 0) }
        iflag := if s.ppu.lyc = 0 ∧ s.ppu.statEnables.getLsbD 3 = true then s.iflag ||| 0b00010 else s.iflag }) ∧
    (s.ppu.lcdc.getLsbD 7 = v.getLsbD 7 → t = { s with ppu := { s.ppu with lcdc := v } })

/-- R600, R620: power-off clears every status, sets every length to its maximum, leaves wave RAM, and every register reads as its mask; while
off, only the length part of NRx1 is taken; power-on makes the next sequencer step step 0. The spec's decisions D34, D35. -/
def Obligations.ApuPowerSwitch : Prop :=
  ∀ (s : State) (v : Byte), s.dma.active = false →
    (s.apu.powered = true → v.getLsbD 7 = false →
      let t := busWrite 0xFF26 v s
      t.apu.powered = false ∧ t.apu.ch1.status = false ∧ t.apu.ch2.status = false ∧ t.apu.ch3.status = false ∧
      t.apu.ch4.status = false ∧ t.apu.ch1.length = 64 ∧ t.apu.ch2.length = 64 ∧ t.apu.ch3.length = 256 ∧
      t.apu.ch4.length = 64 ∧ t.apu.ch3.ram = s.apu.ch3.ram ∧ busRead 0xFF26 t = 0x70 ∧
      (∀ p ∈ apuMasks, busRead p.1 t = p.2) ∧ t = { s with apu := t.apu }) ∧
    (s.apu.powered = false → v.getLsbD 7 = true →
      busWrite 0xFF26 v s = { s with apu := { s.apu with powered := true, fsStep := 7, fsCounter := 0 } }) ∧
    (s.apu.powered = v.getLsbD 7 → busWrite 0xFF26 v s = s) ∧
    (s.apu.powered = false →
      busWrite 0xFF11 v s = { s with apu.ch1.length := 64 - v.toNat % 64 } ∧
      busWrite 0xFF16 v s = { s with apu.ch2.length := 64 - v.toNat % 64 } ∧
      busWrite 0xFF1B v s = { s with apu.ch3.length := 256 - v.toNat } ∧
      busWrite 0xFF20 v s = { s with apu.ch4.length := 64 - v.toNat % 64 } ∧
      ∀ a ∈ [(0xFF10 : Word16), 0xFF12, 0xFF13, 0xFF14, 0xFF17, 0xFF18, 0xFF19, 0xFF1A, 0xFF1C, 0xFF1D, 0xFF1E, 0xFF21, 0xFF22,
        0xFF23, 0xFF24, 0xFF25], busWrite a v s = s)

/-- R132 to R143: the mapper writes of each mapper, and external RAM's read and write. The spec's decisions D15 to D19, D43. -/
def Obligations.MapperWritesAndExternalRam : Prop :=
  (∀ (m : Mapper) (a : Word16) (v : Byte), a.toNat < 0x8000 →
    let enable := decide (v.toNat % 16 = 10)
    let low5 := fun (x : BitVec 5) => if x = 0 then 1 else x.toNat
    m.write .mbc0 a v = m ∧
    (let t := m.write .mbc1 a v;
      t.extRamEnabled = (if a.toNat < 0x2000 then enable else m.extRamEnabled) ∧
      t.byte2000.toNat = (if 0x2000 ≤ a.toNat ∧ a.toNat < 0x4000 then v.toNat % 32 else m.byte2000.toNat) ∧
      t.byte4000.toNat = (if 0x4000 ≤ a.toNat ∧ a.toNat < 0x6000 then v.toNat % 4 else m.byte4000.toNat) ∧
      t.bankMode = (if 0x6000 ≤ a.toNat then (if v.getLsbD 0 then .ram else .rom) else m.bankMode) ∧
      t.romBank.toNat = low5 t.byte2000 + (if t.bankMode = .rom then 32 * t.byte4000.toNat else 0) ∧
      t.extRamBank.toNat = (if t.bankMode = .rom then 0 else t.byte4000.toNat)) ∧
    (m.write .mbc2 a v =
      if a.toNat < 0x2000 ∧ a.getLsbD 8 = false then { m with extRamEnabled := enable }
      else if 0x2000 ≤ a.toNat ∧ a.toNat < 0x4000 ∧ a.getLsbD 8 = true then { m with romBank := BitVec.ofNat 7 (v.toNat % 16) }
      else m) ∧
    (m.write .mbc3 a v =
      if a.toNat < 0x2000 then { m with extRamEnabled := enable }
      else if a.toNat < 0x4000 then { m with romBank := if v.toNat % 128 = 0 then 1 else BitVec.ofNat 7 v.toNat }
      else if a.toNat < 0x6000 then { m with extRamBank := BitVec.ofNat 3 v.toNat }
      else m)) ∧
  (∀ (s : State) (a : Word16) (v : Byte), 0xA000 ≤ a.toNat → a.toNat < 0xC000 → s.dma.active = false →
    let k := s.mapper.extRamBank.toNat * 0x2000 + a.toNat % 0x2000
    (s.mapper.extRamEnabled = false → busRead a s = 0xFF ∧ busWrite a v s = s) ∧
    (s.mapper.extRamEnabled = true → s.cart.kind = .mbc2 →
      busRead a s = s.eram.read (a.toNat % 512) &&& 0x0F ∧
      busWrite a v s = { s with eram := s.eram.write (a.toNat % 512) (v &&& 0x0F) }) ∧
    (s.mapper.extRamEnabled = true → s.cart.kind ≠ .mbc2 → s.cart.extRamSize ≤ k → busRead a s = 0x00 ∧ busWrite a v s = s) ∧
    (s.mapper.extRamEnabled = true → s.cart.kind ≠ .mbc2 → k < s.cart.extRamSize →
      busRead a s = s.eram.read k ∧ busWrite a v s = { s with eram := s.eram.write k v }))

/-- R670 to R673: JOYP reads low for a pressed key of a selected row; the host's key change raises the joypad interrupt when a selected line
falls and wakes a stopped CPU when one of the eight keys was released and is pressed; a JOYP write stores the select bits and raises nothing.
The spec's decisions D5, D37. -/
def Obligations.JoypadLinesInterruptAndWake : Prop :=
  ∀ (s : State) (keys : Keys) (v : Byte), s.dma.active = false →
    let low := fun (k : Keys) (i : Nat) =>
      (!(s.joypad.select.getLsbD 1) && (match i with | 0 => k.a | 1 => k.b | 2 => k.select | _ => k.start)) ||
      (!(s.joypad.select.getLsbD 0) && (match i with | 0 => k.right | 1 => k.left | 2 => k.up | _ => k.down))
    (∀ i < 4, (busRead 0xFF00 s).getLsbD i = !(low s.joypad.keys i)) ∧
    (busRead 0xFF00 s).extractLsb' 4 2 = s.joypad.select ∧
    busWrite 0xFF00 v s = { s with joypad.select := v.extractLsb' 4 2 } ∧
    setKeys keys s = { s with
      joypad.keys := keys
      iflag := if (∃ i < 4, low s.joypad.keys i = false ∧ low keys i = true) then s.iflag ||| 0b10000 else s.iflag
      cpu.stopped :=
        if (s.joypad.keys.right = false ∧ keys.right = true) ∨ (s.joypad.keys.left = false ∧ keys.left = true) ∨
          (s.joypad.keys.up = false ∧ keys.up = true) ∨ (s.joypad.keys.down = false ∧ keys.down = true) ∨
          (s.joypad.keys.a = false ∧ keys.a = true) ∨ (s.joypad.keys.b = false ∧ keys.b = true) ∨
          (s.joypad.keys.select = false ∧ keys.select = true) ∨ (s.joypad.keys.start = false ∧ keys.start = true)
        then false else s.cpu.stopped }

/-- R154 with R151 to R153, R698, R699: an image creates no machine if it is too short, no multiple of 16 KiB, of a type code outside R151, of another
size than R152 gives its code, or of a type with RAM and a RAM-size code outside R153; every other image creates one, which is in the reset state of
the configuration that its row of R151 and its RAM-size code give, with the image in its ROM, its memories INIT_MEM, and a save of the RAM's size in
external RAM where the type has a battery. The tables are the spec's decision D20, the checks D50, INIT_MEM and the save D55; which error is
reported (log 12) and a save of another size (log 13) are not stated. -/
def Obligations.CreationRefusesBadImages : Prop :=
  ∀ (image : List Byte) (init : InitMem) (save : Option (List Byte)),
    let header := fun (k : Nat) => (image.getD k 0).toNat
    let refused := ∃ e, create image init save = .error e
    (image.length < 32768 → refused) ∧
    (image.length % 16384 ≠ 0 → refused) ∧
    ((∀ r ∈ typeRows, r.code ≠ header 0x147) → refused) ∧
    (header 0x148 > 8 → refused) ∧
    (32768 * 2 ^ header 0x148 ≠ image.length → refused) ∧
    (∀ r ∈ typeRows, r.code = header 0x147 → r.ram = true → 5 < header 0x149 → refused) ∧
    (∀ r ∈ typeRows, r.code = header 0x147 → header 0x148 ≤ 8 → 32768 * 2 ^ header 0x148 = image.length →
      ∀ size, (r.kind = .mbc2 → size = 512) → (r.kind ≠ .mbc2 → r.ram = false → size = 0) →
        (r.ram = true → (header 0x149, size) ∈ ramSizes) →
        ∃ cart m, create image init save = .ok (State.resetWith cart m) ∧
          cart.romSize = image.length ∧ cart.kind = r.kind ∧ cart.extRamSize = size ∧ cart.hasBattery = r.battery ∧
          (∀ k < image.length, cart.rom.read k = image.getD k 0) ∧
          m = { init with eram := m.eram } ∧ (save = none → m = init) ∧
          (∀ bytes, save = some bytes → r.battery = true → bytes.length = size →
            ∀ k < size, m.eram.read k = bytes.getD k 0)) ∧
    (∀ s, create image init save = .ok s → CartOk s.cart ∧ s.cart.romSize = image.length ∧
      (∀ k < image.length, s.cart.rom.read k = image.getD k 0) ∧ ∃ m, s = State.resetWith s.cart m)

/-- R433, R675, R692, R694: advancing the devices clears no IF bit and never sets the serial or joypad bit, adds n to the counter and n/2 pairs
to the sample ring, and changes no CPU register, IE, mapper, cartridge or key, and no memory but OAM. The model's choices and inferences: the ring
newest first (log 9), n/2 rounded down for every n (log 21), the event flags left to run_until_event (log 10). -/
def Obligations.DeviceUpdatesKeepCpuAndPendingBits : Prop :=
  ∀ (n : Nat) (s : State),
    let t := updateCycles n s
    (∀ k, s.iflag.getLsbD k = true → t.iflag.getLsbD k = true) ∧
    t.iflag.getLsbD 3 = s.iflag.getLsbD 3 ∧ t.iflag.getLsbD 4 = s.iflag.getLsbD 4 ∧
    t.cycles = s.cycles + n ∧
    (∃ new, t.samples = new ++ s.samples ∧ new.length = n / 2) ∧
    t.apu.ch3.ram = s.apu.ch3.ram ∧
    t.cpu = s.cpu ∧ t.ie = s.ie ∧ t.serial = s.serial ∧ t.joypad = s.joypad ∧ t.mapper = s.mapper ∧ t.cart = s.cart ∧
    t.vram = s.vram ∧ t.wram = s.wram ∧ t.hram = s.hram ∧ t.eram = s.eram ∧ t.events = s.events

/-- R695: a call of run_until_event returns after the first step whose state shows an event; the new-frame edge is cleared on entry. The bound
on the steps is the model's (log 11), and so are the event flags as a field, cleared on entry and set on return (log 10). -/
def Obligations.RunUntilEventReturnsAtTheFirstEvent : Prop :=
  ∀ (fuel m : Nat) (s t : State), runUntilEvent fuel m s = .returned t →
    ∃ n, 0 < n ∧ n ≤ fuel ∧
      (∃ u, Sys2Proof.core.run n { s with ppu.newFrameEdge := false, events := ⟨false, false⟩ } = .next u ∧
        t = { u with events := ⟨u.ppu.newFrameEdge, decide (m ≤ u.samples.length)⟩ } ∧
        (u.ppu.newFrameEdge = true ∨ m ≤ u.samples.length)) ∧
      (∀ k, 0 < k → k < n → ∃ u, Sys2Proof.core.run k { s with ppu.newFrameEdge := false, events := ⟨false, false⟩ } = .next u ∧
        u.ppu.newFrameEdge = false ∧ u.samples.length < m)

/-! ### Invariants of every step -/

/-- F's low four bits stay 0 (R32), no EI latch is left between steps (log 6), and halt_DI marks exactly a HALT entered with IME 0 (R39). -/
def Obligations.EveryStepKeepsTheCpuInvariant : Prop :=
  ∀ s t, CpuOk s.cpu → step s = .next t → CpuOk t.cpu

/-- Every memory stays canonical and inside its region's size, for a cartridge as R151 to R154 accept it; the cartridge never changes. -/
def Obligations.EveryStepKeepsTheMemories : Prop :=
  ∀ s t, MemoriesOk s → CartOk s.cart → step s = .next t → MemoriesOk t ∧ t.cart = s.cart

/-- R550: line_cycle, LY and the mode stay where the rule puts them, with the display on and off, and the framebuffer keeps its size. LY at
0 and mode VBlank while the display is off are the spec's decision D24 (R71, R535). -/
def Obligations.EveryStepKeepsThePpuInvariant : Prop :=
  ∀ s t, PpuOk s → step s = .next t → PpuOk t

/-- The DMA engine's counters stay as R500 and R502 relate them; that byte k is copied at cycle 4(k+1), so that the offset is cycles/4, is the spec's
decision D14. -/
def Obligations.EveryStepKeepsTheDmaCounters : Prop :=
  ∀ s t, DmaOk s.dma → step s = .next t → DmaOk t.dma

/-- R650 and the ranges of R80 to R85: a status needs its DAC and the power, lengths stay at most MAX, running counters positive and even. The
counters in cycles, 2 a tick, are the spec's decision D30 (R590); that they and the sweep timer are integers without a width is the model's choice
(log 8). -/
def Obligations.EveryStepKeepsTheApuInvariant : Prop :=
  ∀ s t, ApuOk s.apu → step s = .next t → ApuOk t.apu

/-- The mapper registers stay what their mapper can put there; under MBC1 and MBC3 the upper ROM window never selects bank 0 (R139, R142). MBC3's
bank 0 taken as 1 is the spec's decision D15, MBC2's bank without that D16, MBC0's fixed banks D18 (R134). -/
def Obligations.EveryStepKeepsTheMapperInvariant : Prop :=
  (∀ s t, MapperOk s.cart.kind s.mapper → step s = .next t → MapperOk t.cart.kind t.mapper) ∧
  (∀ m : Mapper, MapperOk .mbc1 m ∨ MapperOk .mbc3 m → m.romBank ≠ 0)

/-! ### Reset -/

/-- R30, R34, R35 and R36 to R42, as R711 and R714 put them together: the CPU registers after reset, for every cartridge and every INIT_MEM. IME and the
hidden bits at 0 are the spec's decision D9. -/
def Obligations.ResetCpuRegisters : Prop :=
  ∀ (cart : Cartridge) (init : InitMem),
    let c := (State.resetWith cart init).cpu
    (c.a = 0x01 ∧ c.f = 0xB0 ∧ c.b = 0x00 ∧ c.c = 0x13 ∧ c.d = 0x00 ∧ c.e = 0xD8 ∧ c.h = 0x01 ∧ c.l = 0x4D) ∧
    c.sp = 0xFFFE ∧ c.pc = 0x0100 ∧ c.ime = false ∧ c.enableNext = false ∧ c.halt = false ∧ c.haltDI = false ∧
    c.stopped = false ∧ c.haltBug = false ∧ c.locked = none

/-- R714: what the registers read after reset, for every cartridge and every INIT_MEM, and that the invariants hold in State.reset. The
values rest on the spec's decisions D9 (R711) and D10 (R712, R713); State.reset's blank image and its empty INIT_MEM are the model's (log 1,
log 2). -/
def Obligations.ResetReadsAndInvariants : Prop :=
  (∀ (cart : Cartridge) (init : InitMem),
    let s := State.resetWith cart init
    ∀ p ∈ [((0xFF00 : Word16), (0xCF : Byte)), (0xFF01, 0x00), (0xFF02, 0x7E), (0xFF04, 0x00), (0xFF05, 0x00), (0xFF06, 0x00),
      (0xFF07, 0xF8), (0xFF0F, 0xE0), (0xFF10, 0x80), (0xFF11, 0xBF), (0xFF12, 0xF3), (0xFF13, 0xFF), (0xFF14, 0xBF),
      (0xFF16, 0x3F), (0xFF17, 0x00), (0xFF18, 0xFF), (0xFF19, 0xBF), (0xFF1A, 0x7F), (0xFF1B, 0xFF), (0xFF1C, 0x9F),
      (0xFF1D, 0xFF), (0xFF1E, 0xBF), (0xFF20, 0xFF), (0xFF21, 0x00), (0xFF22, 0x00), (0xFF23, 0xBF), (0xFF24, 0x77),
      (0xFF25, 0xF3), (0xFF26, 0xF1), (0xFF40, 0x91), (0xFF41, 0x86), (0xFF42, 0x00), (0xFF43, 0x00), (0xFF44, 0x00),
      (0xFF45, 0x00), (0xFF46, 0xFF), (0xFF47, 0xFC), (0xFF48, 0xFF), (0xFF49, 0xFF), (0xFF4A, 0x00), (0xFF4B, 0x00),
      (0xFFFF, 0x00)], busRead p.1 s = p.2) ∧
  (CpuOk State.reset.cpu ∧ MemoriesOk State.reset ∧ CartOk State.reset.cart ∧ PpuOk State.reset ∧ DmaOk State.reset.dma ∧
    ApuOk State.reset.apu ∧ MapperOk State.reset.cart.kind State.reset.mapper)
end

