-- ==== Sys2Proof/Laws/Memory.lean ====
section
/-! SUPPORT. Laws of one memory: read after write, the canonical form, the bounds. -/

namespace Sys2Proof.Machine

theorem Memory.read_of_not_listed (m : Memory) (k : Nat) (h : ∀ cell ∈ m, cell.1 ≠ k) : m.read k = Config.unlistedByte := by
  induction m with
  | nil => rfl
  | cons c rest ih =>
    have hc : c.1 ≠ k := h c (by simp)
    simp only [Memory.read, hc, if_false]
    exact ih (fun cell hm => h cell (by simp [hm]))

theorem Memory.mem_erase {m : Memory} {k : Nat} {cell : Host.Cell} : cell ∈ m.erase k ↔ cell ∈ m ∧ cell.1 ≠ k := by
  induction m with
  | nil => simp [Memory.erase]
  | cons c rest ih =>
    obtain ⟨j, w⟩ := c
    by_cases hj : j = k <;> simp only [Memory.erase, hj, if_true, if_false, List.mem_cons, ih] <;> grind

theorem Memory.mem_insert {m : Memory} {k : Nat} {v : Byte} {cell : Host.Cell} (h : cell ∈ m.insert k v) :
    cell = (k, v) ∨ cell ∈ m := by
  induction m with
  | nil => simpa [Memory.insert] using h
  | cons c rest ih =>
    obtain ⟨j, w⟩ := c
    simp only [Memory.insert] at h
    split at h
    · simpa using h
    · split at h <;> simp only [List.mem_cons] at h ⊢ <;> grind

theorem Memory.read_erase_same (m : Memory) (k : Nat) : (m.erase k).read k = Config.unlistedByte :=
  Memory.read_of_not_listed _ _ (fun _ hm => (Memory.mem_erase.mp hm).2)

theorem Memory.read_erase_ne (m : Memory) {j k : Nat} (h : j ≠ k) : (m.erase k).read j = m.read j := by
  induction m with
  | nil => rfl
  | cons c rest ih =>
    obtain ⟨i, w⟩ := c
    simp only [Memory.erase]
    split
    · rw [ih, Memory.read]; split <;> grind
    · simp only [Memory.read, ih]

theorem Memory.read_insert_same (m : Memory) (k : Nat) (v : Byte) : (m.insert k v).read k = v := by
  induction m with
  | nil => simp [Memory.insert, Memory.read]
  | cons c rest ih =>
    obtain ⟨i, w⟩ := c
    simp only [Memory.insert]
    split
    · simp [Memory.read]
    · split <;> simp_all [Memory.read]

theorem Memory.read_insert_ne (m : Memory) {j k : Nat} (v : Byte) (h : j ≠ k) : (m.insert k v).read j = m.read j := by
  induction m with
  | nil => simp [Memory.insert, Memory.read, Ne.symm h]
  | cons c rest ih =>
    obtain ⟨i, w⟩ := c
    simp only [Memory.insert]
    split
    · simp [Memory.read, Ne.symm h]
    · split <;> simp_all [Memory.read, Ne.symm h]

/-- A read after a write of the same index gives the value written. -/
@[simp] theorem Memory.read_write_same (m : Memory) (k : Nat) (v : Byte) : (m.write k v).read k = v := by
  unfold Memory.write
  split
  · simp_all [Memory.read_erase_same]
  · exact Memory.read_insert_same m k v

/-- A write leaves every other index alone. -/
theorem Memory.read_write_ne (m : Memory) {j k : Nat} (v : Byte) (h : j ≠ k) : (m.write k v).read j = m.read j := by
  unfold Memory.write
  split
  · exact Memory.read_erase_ne m h
  · exact Memory.read_insert_ne m v h

theorem Memory.pairwise_erase {m : Memory} (k : Nat) (h : m.Pairwise (fun p q => p.1 < q.1)) :
    (m.erase k).Pairwise (fun p q => p.1 < q.1) := by
  induction m with
  | nil => simp [Memory.erase]
  | cons c rest ih =>
    obtain ⟨i, w⟩ := c
    rw [List.pairwise_cons] at h
    simp only [Memory.erase]
    split
    · exact ih h.2
    · exact List.pairwise_cons.mpr ⟨fun q hq => h.1 q (Memory.mem_erase.mp hq).1, ih h.2⟩

theorem Memory.pairwise_insert {m : Memory} (k : Nat) (v : Byte) (h : m.Pairwise (fun p q => p.1 < q.1)) :
    (m.insert k v).Pairwise (fun p q => p.1 < q.1) := by
  induction m with
  | nil => simp [Memory.insert]
  | cons c rest ih =>
    obtain ⟨i, w⟩ := c
    have hr := List.pairwise_cons.mp h
    simp only [Memory.insert]
    split
    next hk =>
      refine List.pairwise_cons.mpr ⟨fun q hq => ?_, h⟩
      rcases List.mem_cons.mp hq with rfl | hq
      · exact hk
      · exact Nat.lt_trans hk (hr.1 q hq)
    · split
      next hik => subst hik; exact List.pairwise_cons.mpr ⟨fun q hq => hr.1 q hq, hr.2⟩
      · refine List.pairwise_cons.mpr ⟨fun q hq => ?_, ih hr.2⟩
        rcases Memory.mem_insert hq with rfl | hq
        · show i < k
          omega
        · exact hr.1 q hq

/-- A write keeps the canonical form. -/
theorem Memory.wf_write {m : Memory} (k : Nat) (v : Byte) (h : m.wf) : (m.write k v).wf := by
  unfold Memory.write
  split
  · exact ⟨Memory.pairwise_erase k h.1, fun cell hm => h.2 cell (Memory.mem_erase.mp hm).1⟩
  next hv =>
    refine ⟨Memory.pairwise_insert k v h.1, fun cell hm => ?_⟩
    rcases Memory.mem_insert hm with rfl | hm
    · exact hv
    · exact h.2 cell hm

/-- A write below a bound keeps every listed index below it. -/
theorem Memory.below_write {m : Memory} {size : Nat} (k : Nat) (v : Byte) (hk : k < size) (h : m.below size) :
    (m.write k v).below size := by
  intro cell hm
  unfold Memory.write at hm
  split at hm
  · exact h cell (Memory.mem_erase.mp hm).1
  · rcases Memory.mem_insert hm with rfl | hm
    · exact hk
    · exact h cell hm

theorem Memory.cellsFrom_ge (k : Nat) (bytes : List Byte) : ∀ cell ∈ Memory.cellsFrom k bytes, k ≤ cell.1 := by
  induction bytes generalizing k with
  | nil => simp [Memory.cellsFrom]
  | cons v rest ih =>
    intro cell hm
    simp only [Memory.cellsFrom] at hm
    split at hm
    · exact Nat.le_of_succ_le (ih (k + 1) cell hm)
    · rcases List.mem_cons.mp hm with rfl | hm
      · exact Nat.le_refl k
      · exact Nat.le_of_succ_le (ih (k + 1) cell hm)

theorem Memory.wf_cellsFrom (k : Nat) (bytes : List Byte) : (Memory.cellsFrom k bytes).wf := by
  induction bytes generalizing k with
  | nil => simp [Memory.cellsFrom, Memory.wf]
  | cons v rest ih =>
    simp only [Memory.cellsFrom]
    split
    · exact ih (k + 1)
    next hv =>
      refine ⟨List.pairwise_cons.mpr ⟨fun q hq => Memory.cellsFrom_ge (k + 1) rest q hq, (ih (k + 1)).1⟩, fun cell hm => ?_⟩
      rcases List.mem_cons.mp hm with rfl | hm
      · exact hv
      · exact (ih (k + 1)).2 cell hm

/-- The memory of a byte sequence is canonical. -/
theorem Memory.wf_ofBytes (bytes : List Byte) : (Memory.ofBytes bytes).wf := Memory.wf_cellsFrom 0 bytes

/-- The cells of a byte sequence from an index read as the sequence. -/
theorem Memory.read_cellsFrom (bytes : List Byte) (j k : Nat) :
    (Memory.cellsFrom j bytes).read (j + k) = bytes.getD k Config.unlistedByte := by
  induction bytes generalizing j k with
  | nil => rfl
  | cons v rest ih =>
    have tail : ∀ i, (Memory.cellsFrom (j + 1) rest).read (j + (i + 1)) = rest.getD i Config.unlistedByte := fun i => by
      rw [← ih (j + 1) i, Nat.add_right_comm, Nat.add_assoc]
    rw [Memory.cellsFrom]
    cases k with
    | zero =>
      split
      next hv =>
        rw [hv]
        exact Memory.read_of_not_listed _ _ fun cell hm => by have := Memory.cellsFrom_ge (j + 1) rest cell hm; omega
      · exact if_pos rfl
    | succ i =>
      split
      · exact tail i
      · exact (if_neg (by omega)).trans (tail i)

/-- The memory of a byte sequence reads as the sequence. -/
theorem Memory.read_ofBytes (bytes : List Byte) (k : Nat) : (Memory.ofBytes bytes).read k = bytes.getD k Config.unlistedByte := by
  rw [Memory.ofBytes, ← Memory.read_cellsFrom bytes 0 k, Nat.zero_add]

end Sys2Proof.Machine
end

