-- ==== Sys2Proof/Laws/Bus.lean ====
section
/-! SUPPORT. What one bus write can do: the three shapes of its effect, what it never changes, and the bounds of the indexes. -/

namespace Sys2Proof.Machine

/-- What no bus write changes. -/
structure BusFrame (s t : State) : Prop where
  cpu : t.cpu = s.cpu
  cart : t.cart = s.cart
  framebuffer : t.framebuffer = s.framebuffer
  samples : t.samples = s.samples
  events : t.events = s.events
  cycles : t.cycles = s.cycles
  keys : t.joypad.keys = s.joypad.keys

theorem BusFrame.refl (s : State) : BusFrame s s := ⟨rfl, rfl, rfl, rfl, rfl, rfl, rfl⟩

theorem BusFrame.trans {s t u : State} (h : BusFrame s t) (k : BusFrame t u) : BusFrame s u :=
  ⟨k.cpu.trans h.cpu, k.cart.trans h.cart, k.framebuffer.trans h.framebuffer, k.samples.trans h.samples,
   k.events.trans h.events, k.cycles.trans h.cycles, k.keys.trans h.keys⟩

/-- `CheckLYC()` changes the coincidence flag and IF only. -/
theorem checkLyc_eq (s : State) :
    checkLyc s =
      { s with
        ppu.coincidence := s.ppu.ly == s.ppu.lyc
        iflag := if (s.ppu.ly == s.ppu.lyc) && s.ppu.lycIrqOn then s.iflag ||| (1#5 <<< statBit) else s.iflag } := by
  unfold checkLyc
  split <;> simp_all [requestInterrupt]

/-- An LCDC write changes the PPU's record and IF only. -/
theorem writeLcdc_frame (v : Byte) (s : State) : ∃ p k, writeLcdc v s = { s with ppu := p, iflag := k } := by
  unfold writeLcdc
  simp only [checkLyc_eq]
  split
  · exact ⟨_, s.iflag, rfl⟩
  · split
    · exact ⟨_, _, rfl⟩
    · exact ⟨_, s.iflag, rfl⟩

/-- A register write changes device records, IE and IF; no memory but wave RAM through the APU. -/
theorem writeIo_frame (r : IoReg) (v : Byte) (s : State) :
    ∃ tm sr se d p a ie k, writeIo r v s =
      { s with timer := tm, serial := sr, joypad.select := se, dma := d, ppu := p, apu := a, ie := ie, iflag := k } := by
  cases r
  case lcdc =>
    obtain ⟨p, k, h⟩ := writeLcdc_frame v s
    exact ⟨s.timer, s.serial, s.joypad.select, s.dma, p, s.apu, s.ie, k, h⟩
  all_goals exact ⟨_, _, _, _, _, _, _, _, rfl⟩

/-- A device write has that shape too. -/
theorem deviceWrite_frame (addr : Word16) (v : Byte) (s : State) :
    ∃ tm sr se d p a ie k, deviceWrite addr v s =
      { s with timer := tm, serial := sr, joypad.select := se, dma := d, ppu := p, apu := a, ie := ie, iflag := k } := by
  unfold deviceWrite
  split
  · exact writeIo_frame _ v s
  · exact ⟨_, _, _, _, _, _, _, _, rfl⟩

/-- The write of a region leaves the frame alone. -/
theorem regionWrite_frame (addr : Word16) (v : Byte) (s : State) : BusFrame s (regionWrite addr v s) := by
  obtain ⟨tm, sr, se, d, p, a, ie, k, h⟩ := deviceWrite_frame addr v s
  unfold regionWrite eramWrite
  split
  all_goals first
    | exact BusFrame.refl s
    | (rw [h]; constructor <;> rfl)
    | (repeat' split) <;> constructor <;> rfl

/-- No bus write changes the CPU, the cartridge, the outputs, the cycle counter or the keys. -/
theorem busWrite_frame (addr : Word16) (v : Byte) (s : State) : BusFrame s (busWrite addr v s) := by
  unfold busWrite
  split
  · exact regionWrite_frame addr v s
  · exact BusFrame.refl s

@[simp] theorem busWrite_cpu (addr : Word16) (v : Byte) (s : State) : (busWrite addr v s).cpu = s.cpu := (busWrite_frame addr v s).cpu
@[simp] theorem busWrite_cart (addr : Word16) (v : Byte) (s : State) : (busWrite addr v s).cart = s.cart := (busWrite_frame addr v s).cart
@[simp] theorem busWrite_framebuffer (addr : Word16) (v : Byte) (s : State) :
    (busWrite addr v s).framebuffer = s.framebuffer := (busWrite_frame addr v s).framebuffer
@[simp] theorem busWrite_samples (addr : Word16) (v : Byte) (s : State) :
    (busWrite addr v s).samples = s.samples := (busWrite_frame addr v s).samples
@[simp] theorem busWrite_events (addr : Word16) (v : Byte) (s : State) :
    (busWrite addr v s).events = s.events := (busWrite_frame addr v s).events
@[simp] theorem busWrite_cycles (addr : Word16) (v : Byte) (s : State) :
    (busWrite addr v s).cycles = s.cycles := (busWrite_frame addr v s).cycles

/-- The addresses of a region (R101). -/
def Region.Range (r : Region) (a : Nat) : Prop :=
  match r with
  | .rom0 => a < 0x4000
  | .romN => 0x4000 ≤ a ∧ a < 0x8000
  | .vram => 0x8000 ≤ a ∧ a < 0xA000
  | .eram => 0xA000 ≤ a ∧ a < 0xC000
  | .wram0 => 0xC000 ≤ a ∧ a < 0xD000
  | .wramN => 0xD000 ≤ a ∧ a < 0xE000
  | .echo => 0xE000 ≤ a ∧ a < 0xFE00
  | .oam => 0xFE00 ≤ a ∧ a < 0xFEA0
  | .unused => 0xFEA0 ≤ a ∧ a < 0xFF00
  | .io => (0xFF00 ≤ a ∧ a < 0xFF10) ∨ (0xFF40 ≤ a ∧ a < 0xFF80) ∨ a = 0xFFFF
  | .apu => 0xFF10 ≤ a ∧ a < 0xFF30
  | .wave => 0xFF30 ≤ a ∧ a < 0xFF40
  | .hram => 0xFF80 ≤ a ∧ a < 0xFFFF

theorem Region.range_ite {c : Prop} [Decidable c] {r q : Region} {a : Nat} (h : c → r.Range a) (k : ¬c → q.Range a) :
    (if c then r else q).Range a := by
  by_cases hc : c
  · rw [if_pos hc]; exact h hc
  · rw [if_neg hc]; exact k hc

/-- The region of an address tells its range. -/
theorem region_range (addr : Word16) : (region addr).Range addr.toNat := by
  have := addr.isLt
  unfold region
  generalize addr.toNat = a at *
  show (ite _ _ _ : Region).Range a
  iterate 14 refine Region.range_ite (fun _ => by dsimp only [Region.Range]; omega) (fun _ => ?_)
  dsimp only [Region.Range]
  omega

/-- The range of a region's address, from the region. -/
theorem range_of_region {addr : Word16} {r : Region} (h : region addr = r) : r.Range addr.toNat := h ▸ region_range addr

/-- The region of an address, from its range. -/
theorem region_eq {addr : Word16} {r : Region} (h : r.Range addr.toNat) : region addr = r := by
  have h1 := region_range addr
  revert h1 h
  generalize region addr = q
  generalize addr.toNat = n
  cases q <;> cases r <;> intro h h1 <;> first | rfl | (exfalso; dsimp only [Region.Range] at h h1; omega)

/-- Without a transfer the DMA gate is open everywhere. -/
@[simp] theorem dmaAllows_inactive {s : State} (h : s.dma.active = false) (r : Region) : dmaAllows r s = true := by
  simp [dmaAllows, h]

/-- A read of the bus depends on no CPU register. -/
@[simp] theorem busRead_cpu (addr : Word16) (s : State) (c : Cpu) : busRead addr { s with cpu := c } = busRead addr s := rfl

theorem deviceWrite_cpu (addr : Word16) (v : Byte) (s : State) (c : Cpu) :
    deviceWrite addr v { s with cpu := c } = { deviceWrite addr v s with cpu := c } := by
  unfold deviceWrite
  split
  next r _ =>
    cases r
    case lcdc =>
      show writeLcdc v { s with cpu := c } = { writeLcdc v s with cpu := c }
      unfold writeLcdc
      simp only [checkLyc_eq]
      split
      · rfl
      · split <;> rfl
    all_goals rfl
  · rfl

theorem eramWrite_cpu (addr : Word16) (v : Byte) (s : State) (c : Cpu) :
    eramWrite addr v { s with cpu := c } = { eramWrite addr v s with cpu := c } := by
  unfold eramWrite
  rw [show eramIndex addr { s with cpu := c } = eramIndex addr s from rfl]
  dsimp only
  split
  · rfl
  · split
    · rfl
    · split <;> rfl

/-- A bus write neither sees nor changes the CPU's registers. -/
theorem busWrite_withCpu (addr : Word16) (v : Byte) (s : State) (c : Cpu) :
    busWrite addr v { s with cpu := c } = { busWrite addr v s with cpu := c } := by
  unfold busWrite
  rw [show dmaAllows (region addr) { s with cpu := c } = dmaAllows (region addr) s from rfl]
  split
  · unfold regionWrite
    split <;> first
      | exact deviceWrite_cpu addr v s c
      | exact eramWrite_cpu addr v s c
      | rfl
      | split <;> rfl
  · rfl

/-! ### The DMA gate and wave RAM -/

/-- No slot of this cycle: nothing was clocked. -/
theorem Wave.clockedAt_none {t : Nat} {ch : Wave} (h0 : ch.log0.time ≠ some t) (h1 : ch.log1.time ≠ some t) : ch.clockedAt t = none := by
  rw [Wave.clockedAt, if_neg h0, if_neg h1]

/-- Some slot of this cycle: something was clocked. -/
theorem Wave.clockedAt_isSome {t : Nat} {ch : Wave} : (ch.clockedAt t).isSome = true ↔ ch.log0.time = some t ∨ ch.log1.time = some t := by
  unfold Wave.clockedAt
  by_cases h0 : ch.log0.time = some t
  · simp [h0]
  · by_cases h1 : ch.log1.time = some t
    · simp [h0, h1]
    · simp [h0, h1]

/-- Behind an open gate a read does not see whether a transfer is active. -/
theorem regionRead_active (addr : Word16) (s : State) (b : Bool) :
    regionRead addr { s with dma := { s.dma with active := b } } = regionRead addr s := by
  unfold regionRead
  split <;> rfl

theorem deviceWrite_active {addr : Word16} (v : Byte) (s : State) (b : Bool) (h : ioReg addr ≠ some .dma) :
    deviceWrite addr v s = { deviceWrite addr v { s with dma := { s.dma with active := b } } with dma := s.dma } := by
  unfold deviceWrite
  split
  next r hr =>
    cases r
    case dma => exact absurd hr h
    case lcdc =>
      show writeLcdc v s = { writeLcdc v { s with dma := { s.dma with active := b } } with dma := s.dma }
      unfold writeLcdc
      simp only [checkLyc_eq]
      split
      · rfl
      · split <;> rfl
    all_goals rfl
  · rfl

/-- The DMA register is at 0xFF46 only (R45). -/
theorem ioReg_ne_dma {addr : Word16} (h : addr.toNat ≠ 0xFF46) : ioReg addr ≠ some .dma := by
  intro hr
  obtain ⟨l, m, hs, -⟩ := List.lookup_eq_some_iff.1 hr
  have : ∀ p ∈ ioMap, p.2 = .dma → p.1 = 0xFF46 := by decide
  exact h (this (addr.toNat, .dma) (by rw [hs]; simp) rfl)

theorem eramWrite_active (addr : Word16) (v : Byte) (s : State) (b : Bool) :
    eramWrite addr v s = { eramWrite addr v { s with dma := { s.dma with active := b } } with dma := s.dma } := by
  unfold eramWrite
  rw [show eramIndex addr { s with dma := { s.dma with active := b } } = eramIndex addr s from rfl]
  dsimp only
  split
  · rfl
  · split
    · rfl
    · split <;> rfl

/-- Behind an open gate a write, but one of the DMA register, neither sees nor changes whether a transfer is active. -/
theorem regionWrite_active {addr : Word16} (v : Byte) (s : State) (b : Bool) (h : addr.toNat ≠ 0xFF46) :
    regionWrite addr v s = { regionWrite addr v { s with dma := { s.dma with active := b } } with dma := s.dma } := by
  unfold regionWrite
  split <;> first
    | exact deviceWrite_active v s b (ioReg_ne_dma h)
    | exact eramWrite_active addr v s b
    | rfl
    | (dsimp only; split <;> rfl)

end Sys2Proof.Machine
end

