-- ==== Sys2Proof/Laws/Cartridge.lean ====
section
/-! SUPPORT. Creating an instance: when the header is refused, and what a header that passes every check gives. -/

namespace Sys2Proof.Machine

/-- An image whose header is refused creates nothing (R154). -/
theorem create_error {image : List Byte} {e : ConfigError} (h : Cartridge.ofImage image = .error e) (init : InitMem)
    (save : Option (List Byte)) : create image init save = .error e := by
  rw [create, h]

/-- An image whose header is accepted creates the reset state of its cartridge (R698). -/
theorem create_ok {image : List Byte} {cart : Cartridge} (h : Cartridge.ofImage image = .ok cart) (init : InitMem)
    (save : Option (List Byte)) : create image init save = .ok (State.resetWith cart (init.withSave cart save)) := by
  rw [create, h]

/-- The checks that do not concern the RAM-size code: size, multiple, type code, ROM-size code, declared size (R151, R152, R154). -/
structure HeaderOk (image : List Byte) (type : CartType) : Prop where
  romMin : 32768 ≤ image.length
  romBanks : image.length % 16384 = 0
  typeCode : cartTypeTable.lookup (image.getD 0x147 0).toNat = some type
  romCode : (image.getD 0x148 0).toNat ≤ 8
  declared : 32768 * 2 ^ (image.getD 0x148 0).toNat = image.length

/-- Either one of those checks fails and the image is refused, or only the RAM-size code decides. -/
theorem ofImage_cases (image : List Byte) :
    (∃ e, Cartridge.ofImage image = .error e ∧ ∀ type, ¬HeaderOk image type) ∨
      ∃ type, HeaderOk image type ∧
        ((∃ e, extRamSizeOf type (image.getD 0x149 0) = .error e ∧ Cartridge.ofImage image = .error e) ∨
          ∃ size, extRamSizeOf type (image.getD 0x149 0) = .ok size ∧
            Cartridge.ofImage image = .ok ⟨Memory.ofBytes image, image.length, type.kind, size, type.hasBattery⟩) := by
  unfold Cartridge.ofImage romSizeOfCode
  dsimp only
  split
  next h => exact .inl ⟨_, rfl, fun _ k => by have := k.romMin; omega⟩
  next h1 =>
    split
    next h => exact .inl ⟨_, rfl, fun _ k => h k.romBanks⟩
    next h2 =>
      split
      next h => exact .inl ⟨_, rfl, fun _ k => nomatch h.symm.trans k.typeCode⟩
      next type h3 =>
        by_cases h4 : (image.getD 0x148 0).toNat ≤ 8
        · rw [if_pos h4]
          dsimp only
          by_cases h5 : 32768 * 2 ^ (image.getD 0x148 0).toNat = image.length
          · rw [if_neg (not_not_intro h5)]
            refine .inr ⟨type, ⟨Nat.le_of_not_lt h1, Decidable.not_not.mp h2, h3, h4, h5⟩, ?_⟩
            cases h6 : extRamSizeOf type (image.getD 0x149 0) with
            | error e => exact .inl ⟨e, rfl, rfl⟩
            | ok size => exact .inr ⟨size, rfl, rfl⟩
          · rw [if_pos h5]
            exact .inl ⟨_, rfl, fun _ k => h5 k.declared⟩
        · rw [if_neg h4]
          exact .inl ⟨_, rfl, fun _ k => h4 k.romCode⟩

/-- An image that fails a check of `HeaderOk` for every type is refused. -/
theorem ofImage_refuses {image : List Byte} (h : ∀ type, ¬HeaderOk image type) : ∃ e, Cartridge.ofImage image = .error e := by
  rcases ofImage_cases image with ⟨e, he, -⟩ | ⟨type, ht, -⟩
  · exact ⟨e, he⟩
  · exact absurd ht (h type)

/-- A header that passes the checks leaves the RAM-size code to decide (R153). -/
theorem ofImage_of_headerOk {image : List Byte} {type : CartType} (h : HeaderOk image type) :
    (∃ e, extRamSizeOf type (image.getD 0x149 0) = .error e ∧ Cartridge.ofImage image = .error e) ∨
      ∃ size, extRamSizeOf type (image.getD 0x149 0) = .ok size ∧
        Cartridge.ofImage image = .ok ⟨Memory.ofBytes image, image.length, type.kind, size, type.hasBattery⟩ := by
  rcases ofImage_cases image with ⟨e, -, hn⟩ | ⟨q, hq, k⟩
  · exact absurd h (hn type)
  · rwa [Option.some.inj (h.typeCode.symm.trans hq.typeCode)]

end Sys2Proof.Machine
end

