-- ==== Sys2Proof/Laws/State.lean ====
section
/-! SUPPORT. One lemma for each field of each named update of the state and of the CPU, true by definition. -/

namespace Sys2Proof.Machine

/-! ### State.mapCpu -/

@[simp] theorem State.mapCpu_cpu (g : Cpu → Cpu) (s : State) : (s.mapCpu g).cpu = g s.cpu := rfl
@[simp] theorem State.mapCpu_ie (g : Cpu → Cpu) (s : State) : (s.mapCpu g).ie = s.ie := rfl
@[simp] theorem State.mapCpu_iflag (g : Cpu → Cpu) (s : State) : (s.mapCpu g).iflag = s.iflag := rfl
@[simp] theorem State.mapCpu_timer (g : Cpu → Cpu) (s : State) : (s.mapCpu g).timer = s.timer := rfl
@[simp] theorem State.mapCpu_serial (g : Cpu → Cpu) (s : State) : (s.mapCpu g).serial = s.serial := rfl
@[simp] theorem State.mapCpu_joypad (g : Cpu → Cpu) (s : State) : (s.mapCpu g).joypad = s.joypad := rfl
@[simp] theorem State.mapCpu_dma (g : Cpu → Cpu) (s : State) : (s.mapCpu g).dma = s.dma := rfl
@[simp] theorem State.mapCpu_ppu (g : Cpu → Cpu) (s : State) : (s.mapCpu g).ppu = s.ppu := rfl
@[simp] theorem State.mapCpu_apu (g : Cpu → Cpu) (s : State) : (s.mapCpu g).apu = s.apu := rfl
@[simp] theorem State.mapCpu_mapper (g : Cpu → Cpu) (s : State) : (s.mapCpu g).mapper = s.mapper := rfl
@[simp] theorem State.mapCpu_cart (g : Cpu → Cpu) (s : State) : (s.mapCpu g).cart = s.cart := rfl
@[simp] theorem State.mapCpu_vram (g : Cpu → Cpu) (s : State) : (s.mapCpu g).vram = s.vram := rfl
@[simp] theorem State.mapCpu_wram (g : Cpu → Cpu) (s : State) : (s.mapCpu g).wram = s.wram := rfl
@[simp] theorem State.mapCpu_hram (g : Cpu → Cpu) (s : State) : (s.mapCpu g).hram = s.hram := rfl
@[simp] theorem State.mapCpu_oam (g : Cpu → Cpu) (s : State) : (s.mapCpu g).oam = s.oam := rfl
@[simp] theorem State.mapCpu_eram (g : Cpu → Cpu) (s : State) : (s.mapCpu g).eram = s.eram := rfl
@[simp] theorem State.mapCpu_framebuffer (g : Cpu → Cpu) (s : State) : (s.mapCpu g).framebuffer = s.framebuffer := rfl
@[simp] theorem State.mapCpu_samples (g : Cpu → Cpu) (s : State) : (s.mapCpu g).samples = s.samples := rfl
@[simp] theorem State.mapCpu_events (g : Cpu → Cpu) (s : State) : (s.mapCpu g).events = s.events := rfl
@[simp] theorem State.mapCpu_cycles (g : Cpu → Cpu) (s : State) : (s.mapCpu g).cycles = s.cycles := rfl

/-! ### requestInterrupt -/

@[simp] theorem requestInterrupt_cpu (k : Nat) (s : State) : (requestInterrupt k s).cpu = s.cpu := rfl
@[simp] theorem requestInterrupt_ie (k : Nat) (s : State) : (requestInterrupt k s).ie = s.ie := rfl
@[simp] theorem requestInterrupt_iflag (k : Nat) (s : State) : (requestInterrupt k s).iflag = s.iflag ||| (1#5 <<< k) := rfl
@[simp] theorem requestInterrupt_timer (k : Nat) (s : State) : (requestInterrupt k s).timer = s.timer := rfl
@[simp] theorem requestInterrupt_serial (k : Nat) (s : State) : (requestInterrupt k s).serial = s.serial := rfl
@[simp] theorem requestInterrupt_joypad (k : Nat) (s : State) : (requestInterrupt k s).joypad = s.joypad := rfl
@[simp] theorem requestInterrupt_dma (k : Nat) (s : State) : (requestInterrupt k s).dma = s.dma := rfl
@[simp] theorem requestInterrupt_ppu (k : Nat) (s : State) : (requestInterrupt k s).ppu = s.ppu := rfl
@[simp] theorem requestInterrupt_apu (k : Nat) (s : State) : (requestInterrupt k s).apu = s.apu := rfl
@[simp] theorem requestInterrupt_mapper (k : Nat) (s : State) : (requestInterrupt k s).mapper = s.mapper := rfl
@[simp] theorem requestInterrupt_cart (k : Nat) (s : State) : (requestInterrupt k s).cart = s.cart := rfl
@[simp] theorem requestInterrupt_vram (k : Nat) (s : State) : (requestInterrupt k s).vram = s.vram := rfl
@[simp] theorem requestInterrupt_wram (k : Nat) (s : State) : (requestInterrupt k s).wram = s.wram := rfl
@[simp] theorem requestInterrupt_hram (k : Nat) (s : State) : (requestInterrupt k s).hram = s.hram := rfl
@[simp] theorem requestInterrupt_oam (k : Nat) (s : State) : (requestInterrupt k s).oam = s.oam := rfl
@[simp] theorem requestInterrupt_eram (k : Nat) (s : State) : (requestInterrupt k s).eram = s.eram := rfl
@[simp] theorem requestInterrupt_framebuffer (k : Nat) (s : State) : (requestInterrupt k s).framebuffer = s.framebuffer := rfl
@[simp] theorem requestInterrupt_samples (k : Nat) (s : State) : (requestInterrupt k s).samples = s.samples := rfl
@[simp] theorem requestInterrupt_events (k : Nat) (s : State) : (requestInterrupt k s).events = s.events := rfl
@[simp] theorem requestInterrupt_cycles (k : Nat) (s : State) : (requestInterrupt k s).cycles = s.cycles := rfl

/-! ### writeIf -/

@[simp] theorem writeIf_cpu (v : Byte) (s : State) : (writeIf v s).cpu = s.cpu := rfl
@[simp] theorem writeIf_ie (v : Byte) (s : State) : (writeIf v s).ie = s.ie := rfl
@[simp] theorem writeIf_iflag (v : Byte) (s : State) : (writeIf v s).iflag = v.extractLsb' 0 5 := rfl
@[simp] theorem writeIf_timer (v : Byte) (s : State) : (writeIf v s).timer = s.timer := rfl
@[simp] theorem writeIf_serial (v : Byte) (s : State) : (writeIf v s).serial = s.serial := rfl
@[simp] theorem writeIf_joypad (v : Byte) (s : State) : (writeIf v s).joypad = s.joypad := rfl
@[simp] theorem writeIf_dma (v : Byte) (s : State) : (writeIf v s).dma = s.dma := rfl
@[simp] theorem writeIf_ppu (v : Byte) (s : State) : (writeIf v s).ppu = s.ppu := rfl
@[simp] theorem writeIf_apu (v : Byte) (s : State) : (writeIf v s).apu = s.apu := rfl
@[simp] theorem writeIf_mapper (v : Byte) (s : State) : (writeIf v s).mapper = s.mapper := rfl
@[simp] theorem writeIf_cart (v : Byte) (s : State) : (writeIf v s).cart = s.cart := rfl
@[simp] theorem writeIf_vram (v : Byte) (s : State) : (writeIf v s).vram = s.vram := rfl
@[simp] theorem writeIf_wram (v : Byte) (s : State) : (writeIf v s).wram = s.wram := rfl
@[simp] theorem writeIf_hram (v : Byte) (s : State) : (writeIf v s).hram = s.hram := rfl
@[simp] theorem writeIf_oam (v : Byte) (s : State) : (writeIf v s).oam = s.oam := rfl
@[simp] theorem writeIf_eram (v : Byte) (s : State) : (writeIf v s).eram = s.eram := rfl
@[simp] theorem writeIf_framebuffer (v : Byte) (s : State) : (writeIf v s).framebuffer = s.framebuffer := rfl
@[simp] theorem writeIf_samples (v : Byte) (s : State) : (writeIf v s).samples = s.samples := rfl
@[simp] theorem writeIf_events (v : Byte) (s : State) : (writeIf v s).events = s.events := rfl
@[simp] theorem writeIf_cycles (v : Byte) (s : State) : (writeIf v s).cycles = s.cycles := rfl

/-! ### acknowledge -/

@[simp] theorem acknowledge_ie (k : Nat) (s : State) : (acknowledge k s).ie = s.ie := rfl
@[simp] theorem acknowledge_iflag (k : Nat) (s : State) : (acknowledge k s).iflag = s.iflag &&& ~~~(1#5 <<< k) := rfl
@[simp] theorem acknowledge_timer (k : Nat) (s : State) : (acknowledge k s).timer = s.timer := rfl
@[simp] theorem acknowledge_serial (k : Nat) (s : State) : (acknowledge k s).serial = s.serial := rfl
@[simp] theorem acknowledge_joypad (k : Nat) (s : State) : (acknowledge k s).joypad = s.joypad := rfl
@[simp] theorem acknowledge_dma (k : Nat) (s : State) : (acknowledge k s).dma = s.dma := rfl
@[simp] theorem acknowledge_ppu (k : Nat) (s : State) : (acknowledge k s).ppu = s.ppu := rfl
@[simp] theorem acknowledge_apu (k : Nat) (s : State) : (acknowledge k s).apu = s.apu := rfl
@[simp] theorem acknowledge_mapper (k : Nat) (s : State) : (acknowledge k s).mapper = s.mapper := rfl
@[simp] theorem acknowledge_cart (k : Nat) (s : State) : (acknowledge k s).cart = s.cart := rfl
@[simp] theorem acknowledge_vram (k : Nat) (s : State) : (acknowledge k s).vram = s.vram := rfl
@[simp] theorem acknowledge_wram (k : Nat) (s : State) : (acknowledge k s).wram = s.wram := rfl
@[simp] theorem acknowledge_hram (k : Nat) (s : State) : (acknowledge k s).hram = s.hram := rfl
@[simp] theorem acknowledge_oam (k : Nat) (s : State) : (acknowledge k s).oam = s.oam := rfl
@[simp] theorem acknowledge_eram (k : Nat) (s : State) : (acknowledge k s).eram = s.eram := rfl
@[simp] theorem acknowledge_framebuffer (k : Nat) (s : State) : (acknowledge k s).framebuffer = s.framebuffer := rfl
@[simp] theorem acknowledge_samples (k : Nat) (s : State) : (acknowledge k s).samples = s.samples := rfl
@[simp] theorem acknowledge_events (k : Nat) (s : State) : (acknowledge k s).events = s.events := rfl
@[simp] theorem acknowledge_cycles (k : Nat) (s : State) : (acknowledge k s).cycles = s.cycles := rfl

/-! ### Cpu.setBc -/

@[simp] theorem Cpu.setBc_a (w : Word16) (c : Cpu) : (c.setBc w).a = c.a := rfl
@[simp] theorem Cpu.setBc_f (w : Word16) (c : Cpu) : (c.setBc w).f = c.f := rfl
@[simp] theorem Cpu.setBc_b (w : Word16) (c : Cpu) : (c.setBc w).b = highByte w := rfl
@[simp] theorem Cpu.setBc_c (w : Word16) (c : Cpu) : (c.setBc w).c = lowByte w := rfl
@[simp] theorem Cpu.setBc_d (w : Word16) (c : Cpu) : (c.setBc w).d = c.d := rfl
@[simp] theorem Cpu.setBc_e (w : Word16) (c : Cpu) : (c.setBc w).e = c.e := rfl
@[simp] theorem Cpu.setBc_h (w : Word16) (c : Cpu) : (c.setBc w).h = c.h := rfl
@[simp] theorem Cpu.setBc_l (w : Word16) (c : Cpu) : (c.setBc w).l = c.l := rfl
@[simp] theorem Cpu.setBc_sp (w : Word16) (c : Cpu) : (c.setBc w).sp = c.sp := rfl
@[simp] theorem Cpu.setBc_pc (w : Word16) (c : Cpu) : (c.setBc w).pc = c.pc := rfl
@[simp] theorem Cpu.setBc_ime (w : Word16) (c : Cpu) : (c.setBc w).ime = c.ime := rfl
@[simp] theorem Cpu.setBc_enableNext (w : Word16) (c : Cpu) : (c.setBc w).enableNext = c.enableNext := rfl
@[simp] theorem Cpu.setBc_eiPending (w : Word16) (c : Cpu) : (c.setBc w).eiPending = c.eiPending := rfl
@[simp] theorem Cpu.setBc_halt (w : Word16) (c : Cpu) : (c.setBc w).halt = c.halt := rfl
@[simp] theorem Cpu.setBc_haltDI (w : Word16) (c : Cpu) : (c.setBc w).haltDI = c.haltDI := rfl
@[simp] theorem Cpu.setBc_stopped (w : Word16) (c : Cpu) : (c.setBc w).stopped = c.stopped := rfl
@[simp] theorem Cpu.setBc_haltBug (w : Word16) (c : Cpu) : (c.setBc w).haltBug = c.haltBug := rfl
@[simp] theorem Cpu.setBc_locked (w : Word16) (c : Cpu) : (c.setBc w).locked = c.locked := rfl

/-! ### Cpu.setDe -/

@[simp] theorem Cpu.setDe_a (w : Word16) (c : Cpu) : (c.setDe w).a = c.a := rfl
@[simp] theorem Cpu.setDe_f (w : Word16) (c : Cpu) : (c.setDe w).f = c.f := rfl
@[simp] theorem Cpu.setDe_b (w : Word16) (c : Cpu) : (c.setDe w).b = c.b := rfl
@[simp] theorem Cpu.setDe_c (w : Word16) (c : Cpu) : (c.setDe w).c = c.c := rfl
@[simp] theorem Cpu.setDe_d (w : Word16) (c : Cpu) : (c.setDe w).d = highByte w := rfl
@[simp] theorem Cpu.setDe_e (w : Word16) (c : Cpu) : (c.setDe w).e = lowByte w := rfl
@[simp] theorem Cpu.setDe_h (w : Word16) (c : Cpu) : (c.setDe w).h = c.h := rfl
@[simp] theorem Cpu.setDe_l (w : Word16) (c : Cpu) : (c.setDe w).l = c.l := rfl
@[simp] theorem Cpu.setDe_sp (w : Word16) (c : Cpu) : (c.setDe w).sp = c.sp := rfl
@[simp] theorem Cpu.setDe_pc (w : Word16) (c : Cpu) : (c.setDe w).pc = c.pc := rfl
@[simp] theorem Cpu.setDe_ime (w : Word16) (c : Cpu) : (c.setDe w).ime = c.ime := rfl
@[simp] theorem Cpu.setDe_enableNext (w : Word16) (c : Cpu) : (c.setDe w).enableNext = c.enableNext := rfl
@[simp] theorem Cpu.setDe_eiPending (w : Word16) (c : Cpu) : (c.setDe w).eiPending = c.eiPending := rfl
@[simp] theorem Cpu.setDe_halt (w : Word16) (c : Cpu) : (c.setDe w).halt = c.halt := rfl
@[simp] theorem Cpu.setDe_haltDI (w : Word16) (c : Cpu) : (c.setDe w).haltDI = c.haltDI := rfl
@[simp] theorem Cpu.setDe_stopped (w : Word16) (c : Cpu) : (c.setDe w).stopped = c.stopped := rfl
@[simp] theorem Cpu.setDe_haltBug (w : Word16) (c : Cpu) : (c.setDe w).haltBug = c.haltBug := rfl
@[simp] theorem Cpu.setDe_locked (w : Word16) (c : Cpu) : (c.setDe w).locked = c.locked := rfl

/-! ### Cpu.setHl -/

@[simp] theorem Cpu.setHl_a (w : Word16) (c : Cpu) : (c.setHl w).a = c.a := rfl
@[simp] theorem Cpu.setHl_f (w : Word16) (c : Cpu) : (c.setHl w).f = c.f := rfl
@[simp] theorem Cpu.setHl_b (w : Word16) (c : Cpu) : (c.setHl w).b = c.b := rfl
@[simp] theorem Cpu.setHl_c (w : Word16) (c : Cpu) : (c.setHl w).c = c.c := rfl
@[simp] theorem Cpu.setHl_d (w : Word16) (c : Cpu) : (c.setHl w).d = c.d := rfl
@[simp] theorem Cpu.setHl_e (w : Word16) (c : Cpu) : (c.setHl w).e = c.e := rfl
@[simp] theorem Cpu.setHl_h (w : Word16) (c : Cpu) : (c.setHl w).h = highByte w := rfl
@[simp] theorem Cpu.setHl_l (w : Word16) (c : Cpu) : (c.setHl w).l = lowByte w := rfl
@[simp] theorem Cpu.setHl_sp (w : Word16) (c : Cpu) : (c.setHl w).sp = c.sp := rfl
@[simp] theorem Cpu.setHl_pc (w : Word16) (c : Cpu) : (c.setHl w).pc = c.pc := rfl
@[simp] theorem Cpu.setHl_ime (w : Word16) (c : Cpu) : (c.setHl w).ime = c.ime := rfl
@[simp] theorem Cpu.setHl_enableNext (w : Word16) (c : Cpu) : (c.setHl w).enableNext = c.enableNext := rfl
@[simp] theorem Cpu.setHl_eiPending (w : Word16) (c : Cpu) : (c.setHl w).eiPending = c.eiPending := rfl
@[simp] theorem Cpu.setHl_halt (w : Word16) (c : Cpu) : (c.setHl w).halt = c.halt := rfl
@[simp] theorem Cpu.setHl_haltDI (w : Word16) (c : Cpu) : (c.setHl w).haltDI = c.haltDI := rfl
@[simp] theorem Cpu.setHl_stopped (w : Word16) (c : Cpu) : (c.setHl w).stopped = c.stopped := rfl
@[simp] theorem Cpu.setHl_haltBug (w : Word16) (c : Cpu) : (c.setHl w).haltBug = c.haltBug := rfl
@[simp] theorem Cpu.setHl_locked (w : Word16) (c : Cpu) : (c.setHl w).locked = c.locked := rfl

/-! ### Cpu.setAf -/

@[simp] theorem Cpu.setAf_a (w : Word16) (c : Cpu) : (c.setAf w).a = highByte w := rfl
@[simp] theorem Cpu.setAf_f (w : Word16) (c : Cpu) : (c.setAf w).f = flagByte (lowByte w) := rfl
@[simp] theorem Cpu.setAf_b (w : Word16) (c : Cpu) : (c.setAf w).b = c.b := rfl
@[simp] theorem Cpu.setAf_c (w : Word16) (c : Cpu) : (c.setAf w).c = c.c := rfl
@[simp] theorem Cpu.setAf_d (w : Word16) (c : Cpu) : (c.setAf w).d = c.d := rfl
@[simp] theorem Cpu.setAf_e (w : Word16) (c : Cpu) : (c.setAf w).e = c.e := rfl
@[simp] theorem Cpu.setAf_h (w : Word16) (c : Cpu) : (c.setAf w).h = c.h := rfl
@[simp] theorem Cpu.setAf_l (w : Word16) (c : Cpu) : (c.setAf w).l = c.l := rfl
@[simp] theorem Cpu.setAf_sp (w : Word16) (c : Cpu) : (c.setAf w).sp = c.sp := rfl
@[simp] theorem Cpu.setAf_pc (w : Word16) (c : Cpu) : (c.setAf w).pc = c.pc := rfl
@[simp] theorem Cpu.setAf_ime (w : Word16) (c : Cpu) : (c.setAf w).ime = c.ime := rfl
@[simp] theorem Cpu.setAf_enableNext (w : Word16) (c : Cpu) : (c.setAf w).enableNext = c.enableNext := rfl
@[simp] theorem Cpu.setAf_eiPending (w : Word16) (c : Cpu) : (c.setAf w).eiPending = c.eiPending := rfl
@[simp] theorem Cpu.setAf_halt (w : Word16) (c : Cpu) : (c.setAf w).halt = c.halt := rfl
@[simp] theorem Cpu.setAf_haltDI (w : Word16) (c : Cpu) : (c.setAf w).haltDI = c.haltDI := rfl
@[simp] theorem Cpu.setAf_stopped (w : Word16) (c : Cpu) : (c.setAf w).stopped = c.stopped := rfl
@[simp] theorem Cpu.setAf_haltBug (w : Word16) (c : Cpu) : (c.setAf w).haltBug = c.haltBug := rfl
@[simp] theorem Cpu.setAf_locked (w : Word16) (c : Cpu) : (c.setAf w).locked = c.locked := rfl

end Sys2Proof.Machine
end

