-- ==== Sys2Proof/Laws/Cpu.lean ====
section
/-! SUPPORT. What instructions do to the CPU's hidden state and to F's low four bits, one lemma per shared operation. -/

namespace Sys2Proof.Machine

/-- The CPU's hidden state (R36 to R42). -/
structure Hidden where
  ime : Bool
  enableNext : Bool
  eiPending : Bool
  halt : Bool
  haltDI : Bool
  stopped : Bool
  haltBug : Bool
  locked : Option Byte

/-- The hidden state of a CPU record. -/
def Cpu.hidden (c : Cpu) : Hidden := ⟨c.ime, c.enableNext, c.eiPending, c.halt, c.haltDI, c.stopped, c.haltBug, c.locked⟩

/-- An update keeps the hidden state, and keeps F's low four bits 0. -/
structure Plain (s t : State) : Prop where
  hidden : t.cpu.hidden = s.cpu.hidden
  flagsLow : s.cpu.f &&& 0x0F = 0 → t.cpu.f &&& 0x0F = 0

theorem Plain.refl (s : State) : Plain s s := ⟨rfl, id⟩

theorem Plain.trans {s t u : State} (h : Plain s t) (k : Plain t u) : Plain s u := ⟨k.hidden.trans h.hidden, k.flagsLow ∘ h.flagsLow⟩

/-- Every flag byte built from flags has its low four bits 0 (R32). -/
@[simp] theorem mkFlags_low (z n h c : Bool) : mkFlags z n h c &&& 0x0F = 0 := by
  revert z n h c; decide

theorem flagByte_low (v : Byte) : flagByte v &&& 0x0F = 0 := by
  unfold flagByte; revert v; decide

theorem clearZ_low {r : Alu} (h : r.flags &&& 0x0F = 0) : r.clearZ.flags &&& 0x0F = 0 := by
  have key : ∀ f : Byte, f &&& 0x0F = 0 → (f &&& 0x7F) &&& 0x0F = 0 := by decide
  exact key r.flags h

/-- An ALU result whose flag byte is well formed. -/
def Alu.Low (r : Alu) : Prop := r.flags &&& 0x0F = 0

theorem aluAdd_low (a s : Byte) (c : Bool) : (aluAdd a s c).Low := mkFlags_low _ _ _ _
theorem aluSub_low (a s : Byte) (c : Bool) : (aluSub a s c).Low := mkFlags_low _ _ _ _
theorem aluAnd_low (a s : Byte) : (aluAnd a s).Low := mkFlags_low _ _ _ _
theorem aluXor_low (a s : Byte) : (aluXor a s).Low := mkFlags_low _ _ _ _
theorem aluOr_low (a s : Byte) : (aluOr a s).Low := mkFlags_low _ _ _ _
theorem aluInc_low (v : Byte) (c : Bool) : (aluInc v c).Low := mkFlags_low _ _ _ _
theorem aluDec_low (v : Byte) (c : Bool) : (aluDec v c).Low := mkFlags_low _ _ _ _
theorem aluDaa_low (a : Byte) (n h c : Bool) : (aluDaa a n h c).Low := by
  unfold aluDaa; split <;> exact mkFlags_low _ _ _ _
theorem aluRlc_low (v : Byte) : (aluRlc v).Low := mkFlags_low _ _ _ _
theorem aluRrc_low (v : Byte) : (aluRrc v).Low := mkFlags_low _ _ _ _
theorem aluRl_low (v : Byte) (c : Bool) : (aluRl v c).Low := mkFlags_low _ _ _ _
theorem aluRr_low (v : Byte) (c : Bool) : (aluRr v c).Low := mkFlags_low _ _ _ _
theorem aluSla_low (v : Byte) : (aluSla v).Low := mkFlags_low _ _ _ _
theorem aluSra_low (v : Byte) : (aluSra v).Low := mkFlags_low _ _ _ _
theorem aluSwap_low (v : Byte) : (aluSwap v).Low := mkFlags_low _ _ _ _
theorem aluSrl_low (v : Byte) : (aluSrl v).Low := mkFlags_low _ _ _ _

theorem busWrite_plain (addr : Word16) (v : Byte) (s : State) : Plain s (busWrite addr v s) := by
  constructor <;> simp

theorem writeOp8_plain (o : Op8) (v : Byte) (s : State) : Plain s (writeOp8 o v s) := by
  cases o <;> first | exact busWrite_plain _ _ s | exact ⟨rfl, id⟩

theorem setFlags_plain {f : Byte} (s : State) (h : f &&& 0x0F = 0) : Plain s (setFlags f s) := ⟨rfl, fun _ => h⟩

theorem setA_plain {r : Alu} (s : State) (h : r.Low) : Plain s (setA r s) := ⟨rfl, fun _ => h⟩

theorem opModify_plain (o : Op8) (g : Byte → Alu) (s : State) (h : ∀ v, (g v).Low) : Plain s (opModify o g s) :=
  (writeOp8_plain o _ s).trans (setFlags_plain _ (h _))

theorem push16_plain (v : Word16) (s : State) : Plain s (push16 v s) := by
  constructor <;> simp [push16, Cpu.hidden]

theorem jump_plain {s t : State} (a : Word16) (h : Plain s t) : Plain s (jump a t) := h.trans ⟨rfl, id⟩
theorem opCall_plain (t : Word16) (s : State) : Plain s (opCall t s) := jump_plain t (push16_plain _ s)
theorem opRet_plain (s : State) : Plain s (opRet s) := ⟨rfl, id⟩
theorem opJr_plain (e : Byte) (s : State) : Plain s (opJr e s) := ⟨rfl, id⟩
theorem jumpTo_plain (a : Word16) (s : State) : Plain s (jump a s) := ⟨rfl, id⟩

theorem whenCond_plain (cc : Cond) (g : State → State) (s : State) (h : Plain s (g s)) : Plain s (whenCond cc g s) := by
  unfold whenCond
  split
  · exact h
  · exact .refl s

theorem opSetPair_plain (r : Reg16) (w : Word16) (s : State) : Plain s (opSetPair r w s) := by cases r <;> exact ⟨rfl, id⟩
theorem opAddPair_plain (r : Reg16) (w : Word16) (s : State) : Plain s (opAddPair r w s) := by cases r <;> exact ⟨rfl, id⟩
theorem opAddHl_plain (r : Reg16) (s : State) : Plain s (opAddHl r s) := ⟨rfl, fun _ => mkFlags_low _ _ _ _⟩
theorem opPop_plain (r : StackReg) (s : State) : Plain s (opPop r s) := by
  cases r <;> first | exact ⟨rfl, id⟩ | exact ⟨rfl, fun _ => flagByte_low _⟩
theorem opMoveHl_plain {s t : State} (d : Word16) (h : Plain s t) : Plain s (opMoveHl d t) := h.trans ⟨rfl, id⟩
theorem opLoad_plain (dst src : Op8) (s : State) : Plain s (opLoad dst src s) := writeOp8_plain _ _ s
theorem opLoadA_plain (a : Word16) (s : State) : Plain s (opLoadA a s) := writeOp8_plain .a _ s
theorem opStoreA_plain (a : Word16) (s : State) : Plain s (opStoreA a s) := busWrite_plain _ _ s
theorem loadMove_plain (d a : Word16) (s : State) : Plain s (opMoveHl d (opLoadA a s)) := opMoveHl_plain d (opLoadA_plain a s)
theorem storeMove_plain (d a : Word16) (s : State) : Plain s (opMoveHl d (opStoreA a s)) := opMoveHl_plain d (opStoreA_plain a s)
theorem writeWrite_plain (a b : Word16) (u v : Byte) (s : State) : Plain s (busWrite a u (busWrite b v s)) :=
  (busWrite_plain b v s).trans (busWrite_plain a u _)
theorem opAdd_plain (v : Byte) (s : State) : Plain s (opAdd v s) := setA_plain s (aluAdd_low _ _ _)
theorem opAdc_plain (v : Byte) (s : State) : Plain s (opAdc v s) := setA_plain s (aluAdd_low _ _ _)
theorem opSub_plain (v : Byte) (s : State) : Plain s (opSub v s) := setA_plain s (aluSub_low _ _ _)
theorem opSbc_plain (v : Byte) (s : State) : Plain s (opSbc v s) := setA_plain s (aluSub_low _ _ _)
theorem opAnd_plain (v : Byte) (s : State) : Plain s (opAnd v s) := setA_plain s (aluAnd_low _ _)
theorem opXor_plain (v : Byte) (s : State) : Plain s (opXor v s) := setA_plain s (aluXor_low _ _)
theorem opOr_plain (v : Byte) (s : State) : Plain s (opOr v s) := setA_plain s (aluOr_low _ _)
theorem opCp_plain (v : Byte) (s : State) : Plain s (opCp v s) := setFlags_plain s (aluSub_low _ _ _)
theorem opBit_plain (b : Nat) (o : Op8) (s : State) : Plain s (opBit b o s) := setFlags_plain s (mkFlags_low _ _ _ _)
theorem opRes_plain (b : Nat) (o : Op8) (s : State) : Plain s (opRes b o s) := writeOp8_plain _ _ s
theorem opSet_plain (b : Nat) (o : Op8) (s : State) : Plain s (opSet b o s) := writeOp8_plain _ _ s
theorem opInc8_plain (o : Op8) (s : State) : Plain s (opInc8 o s) := opModify_plain _ _ s (fun v => aluInc_low v _)
theorem opDec8_plain (o : Op8) (s : State) : Plain s (opDec8 o s) := opModify_plain _ _ s (fun v => aluDec_low v _)
theorem opRotateA_plain (g : Byte → Alu) (s : State) (h : ∀ v, (g v).Low) : Plain s (opRotateA g s) :=
  setA_plain s (clearZ_low (h _))
theorem daa_plain (s : State) : Plain s (setA (aluDaa s.cpu.a s.cpu.nf s.cpu.hf s.cpu.cf) s) := setA_plain s (aluDaa_low _ _ _ _)
theorem cpl_plain (v : Byte) (z n h c : Bool) (s : State) : Plain s (setA ⟨v, mkFlags z n h c⟩ s) := setA_plain s (mkFlags_low _ _ _ _)
theorem flags_plain (z n h c : Bool) (s : State) : Plain s (setFlags (mkFlags z n h c) s) := setFlags_plain s (mkFlags_low _ _ _ _)
theorem addSp_plain (e : Byte) (s : State) :
    Plain s (s.mapCpu (fun c => { c with sp := c.sp + sext16 e, f := addSpFlags c.sp e })) := ⟨rfl, fun _ => mkFlags_low _ _ _ _⟩
theorem ldHlSp_plain (e : Byte) (s : State) :
    Plain s (s.mapCpu (fun c => { c.setHl (c.sp + sext16 e) with f := addSpFlags c.sp e })) := ⟨rfl, fun _ => mkFlags_low _ _ _ _⟩

/-- The instructions that write the CPU's hidden state. -/
def Instr.controls (i : Instr) : Bool :=
  match i with
  | .halt | .stop _ | .di | .ei | .reti => true
  | _ => false

/-- Every other instruction keeps the hidden state, and F's low four bits stay 0. -/
theorem exec_plain (i : Instr) (s t : State) (hi : Instr.controls i = false) (h : exec i s = .next t) : Plain s t := by
  have hs : ∀ {u : State}, Plain s u → Host.Outcome.next (φ := Fault) (ρ := Refusal) u = .next t → Plain s t := by
    intro u hu he; cases he; exact hu
  cases i <;> first
    | exact absurd (show true = false from hi) (by decide)
    | exact hs (by
        simp only [opLoad_plain, opBit_plain, opRes_plain, opSet_plain, opInc8_plain, opDec8_plain, opAdd_plain,
          opAdc_plain, opSub_plain, opSbc_plain, opAnd_plain, opXor_plain, opOr_plain, opCp_plain, opCall_plain, whenCond_plain,
          jumpTo_plain, opJr_plain, opRet_plain, writeOp8_plain, opLoadA_plain, opStoreA_plain, loadMove_plain, storeMove_plain,
          opSetPair_plain, opAddPair_plain, opAddHl_plain, push16_plain, opPop_plain, Plain.refl, writeWrite_plain,
          opModify_plain, opRotateA_plain, aluRlc_low, aluRrc_low, aluRl_low, aluRr_low, aluSla_low, aluSra_low, aluSwap_low,
          aluSrl_low, implies_true, daa_plain, cpl_plain, flags_plain, addSp_plain, ldHlSp_plain]) h
    | cases h

end Sys2Proof.Machine
end

