-- ==== Sys2Proof/Laws/Decode.lean ====
section
/-! SUPPORT. What a round trip needs: a 16-bit immediate is its two bytes, and what decoding does for each format of R171. -/

namespace Sys2Proof

/-- The bytes of a 16-bit value, put together again. -/
@[simp] theorem highByte_append_lowByte (w : Word16) : (highByte w ++ lowByte w : Word16) = w := by
  simp only [highByte, lowByte]
  ext i hi
  simp only [BitVec.getElem_append, BitVec.getElem_extractLsb']
  split
  · simp [BitVec.getLsbD_eq_getElem hi]
  · rw [show 8 + (i - 8) = i by omega]; simp [BitVec.getLsbD_eq_getElem hi]

@[simp] theorem lowByte_append (h l : Byte) : lowByte (h ++ l) = l := by
  apply BitVec.eq_of_getLsbD_eq
  intro i hi
  have e : ((h ++ l : BitVec (8 + 8))).getLsbD (0 + i) = l.getLsbD i := by
    rw [BitVec.getLsbD_append, if_pos (by omega), Nat.zero_add]
  simpa [lowByte, hi] using e

@[simp] theorem highByte_append (h l : Byte) : highByte (h ++ l) = h := by
  apply BitVec.eq_of_getLsbD_eq
  intro i hi
  have e : ((h ++ l : BitVec (8 + 8))).getLsbD (8 + i) = h.getLsbD i := by
    rw [BitVec.getLsbD_append, if_neg (by omega), show 8 + i - 8 = i by omega]
  simpa [highByte, hi] using e

/-! ### Decoding by the format of the first byte (R171) -/

theorem decode_op {b0 : Byte} {i : Instr} (h : opEntry b0 = .op i) (rest : List Byte) : decode (b0 :: rest) = .ok (i, rest) := by
  simp [decode, h, OpEntry.length, OpEntry.instr]

theorem decode_n8 {b0 : Byte} {f : Byte → Instr} (h : opEntry b0 = .n8 f) (n : Byte) (rest : List Byte) :
    decode (b0 :: n :: rest) = .ok (f n, rest) := by
  simp [decode, h, OpEntry.length, OpEntry.instr]

theorem decode_e8 {b0 : Byte} {f : Byte → Instr} (h : opEntry b0 = .e8 f) (e : Byte) (rest : List Byte) :
    decode (b0 :: e :: rest) = .ok (f e, rest) := by
  simp [decode, h, OpEntry.length, OpEntry.instr]

theorem decode_x8 {b0 : Byte} {f : Byte → Instr} (h : opEntry b0 = .x8 f) (x : Byte) (rest : List Byte) :
    decode (b0 :: x :: rest) = .ok (f x, rest) := by
  simp [decode, h, OpEntry.length, OpEntry.instr]

theorem decode_n16 {b0 : Byte} {f : Word16 → Instr} (h : opEntry b0 = .n16 f) (nn : Word16) (rest : List Byte) :
    decode (b0 :: lowByte nn :: highByte nn :: rest) = .ok (f nn, rest) := by
  simp [decode, h, OpEntry.length, OpEntry.instr]

theorem decode_cb {b0 : Byte} (h : opEntry b0 = .cb) (b1 : Byte) (rest : List Byte) : decode (b0 :: b1 :: rest) = .ok (cbEntry b1, rest) := by
  simp [decode, h, OpEntry.length, OpEntry.instr]

/-- An instruction takes one to three bytes (R170). -/
theorem opEntry_length (b : Byte) : 1 ≤ (opEntry b).length ∧ (opEntry b).length ≤ 3 := by
  cases opEntry b <;> simp [OpEntry.length]

/-- Three bytes always hold an instruction. -/
theorem decode_three (b0 b1 b2 : Byte) :
    decode [b0, b1, b2] = .ok ((decodeBytes b0 b1 b2).1, [b1, b2].drop ((decodeBytes b0 b1 b2).2 - 1)) := by
  have := opEntry_length b0
  rw [decode, if_neg (by simp; omega)]
  rfl

end Sys2Proof
end

