-- ==== Sys2Proof/Laws/Devices.lean ====
section
/-! SUPPORT. What advancing the devices can do, said once: which records each device changes, and an induction rule for each. -/

namespace Sys2Proof.Machine

/-- A property that a function keeps, its iterates keep. -/
theorem iterate_keeps {α : Type} {P : α → Prop} {f : α → α} (h : ∀ x, P x → P (f x)) (n : Nat) {x : α} (hx : P x) : P (f^[n] x) := by
  induction n generalizing x with
  | zero => exact hx
  | succ k ih => exact ih (h x hx)

/-! ### The timer -/

theorem timerStep_eq (s : State) :
    timerStep s =
      { s with
        timer := s.timer.reload.divide
        iflag := if s.timer.reloadDue then s.iflag ||| (1#5 <<< timerBit) else s.iflag } := by
  unfold timerStep
  split <;> simp_all [requestInterrupt]

/-- What one timer step keeps, `n / 4` of them keep. -/
theorem timerUpdate_keeps {P : State → Prop} (h : ∀ s, P s → P (timerStep s)) (n : Nat) {s : State} (hs : P s) : P (timerUpdate n s) :=
  iterate_keeps h _ hs

theorem timerUpdate_frame (n : Nat) (s : State) : ∃ tm k, timerUpdate n s = { s with timer := tm, iflag := k } := by
  refine timerUpdate_keeps (P := fun t => ∃ tm k, t = { s with timer := tm, iflag := k }) ?_ n ⟨s.timer, s.iflag, rfl⟩
  rintro t ⟨tm, k, rfl⟩
  exact ⟨_, _, timerStep_eq _⟩

/-! ### The PPU -/

/-- What one PPU cycle keeps, n of them keep. -/
theorem ppuUpdate_keeps {P : State → Prop} (h : ∀ s, P s → P (ppuCycle s)) (n : Nat) {s : State} (hs : P s) : P (ppuUpdate n s) :=
  iterate_keeps h _ hs

/-- A STAT request changes IF only. -/
theorem statIf_eq (enabled : Bool) (s : State) :
    statIf enabled s = { s with iflag := if enabled then s.iflag ||| (1#5 <<< statBit) else s.iflag } := by
  unfold statIf
  split <;> simp_all [requestInterrupt]

/-- A state that differs in the PPU's record, the framebuffer and IF only. -/
def PpuFrame (s t : State) : Prop := ∃ p fb k, t = { s with ppu := p, framebuffer := fb, iflag := k }

theorem ppuCycle_frame (s : State) : PpuFrame s (ppuCycle s) := by
  unfold PpuFrame ppuCycle lcdOnCycle lcdOffCycle endOffLine enterTransfer enterHBlank endVisibleLine endVBlankLine renderLine
  simp only [checkLyc_eq, statIf_eq, requestInterrupt]
  repeat' split
  all_goals exact ⟨_, _, _, rfl⟩

theorem ppuUpdate_frame (n : Nat) (s : State) : PpuFrame s (ppuUpdate n s) := by
  refine ppuUpdate_keeps (P := PpuFrame s) ?_ n ⟨s.ppu, s.framebuffer, s.iflag, rfl⟩
  rintro t ⟨p, fb, k, rfl⟩
  obtain ⟨p', fb', k', h⟩ := ppuCycle_frame { s with ppu := p, framebuffer := fb, iflag := k }
  exact ⟨p', fb', k', h⟩

/-! ### The DMA engine -/

/-- What one cycle of an active transfer keeps, n of them keep. -/
theorem dmaUpdate_keeps {P : State → Prop} (h : ∀ s, P s → s.dma.active = true → P (dmaCycle s)) (n : Nat) {s : State} (hs : P s) :
    P (dmaUpdate n s) := by
  induction n generalizing s with
  | zero => exact hs
  | succ k ih =>
    unfold dmaUpdate
    split
    next ha => exact ih (h s hs ha)
    · exact hs

theorem dmaCycle_frame (s : State) : ∃ d m, dmaCycle s = { s with dma := d, oam := m } := by
  unfold dmaCycle dmaCopy
  dsimp only
  repeat' split
  all_goals exact ⟨_, _, rfl⟩

theorem dmaUpdate_frame (n : Nat) (s : State) : ∃ d m, dmaUpdate n s = { s with dma := d, oam := m } := by
  refine dmaUpdate_keeps (P := fun t => ∃ d m, t = { s with dma := d, oam := m }) ?_ n ⟨s.dma, s.oam, rfl⟩
  rintro t ⟨d, m, rfl⟩ _
  exact dmaCycle_frame _

/-! ### The APU -/

/-- What one tick keeps of the APU's record, the ticks of an update keep. -/
theorem apuTicks_keeps {P : Apu → Prop} (h : ∀ t p, P p → P (Apu.tick t p)) (k t : Nat) {s : State} (hs : P s.apu) :
    P (apuTicks k t s).apu := by
  induction k generalizing t s with
  | zero => exact hs
  | succ k ih => exact ih (t + 2) (s := { s with apu := s.apu.tick (t + 2), samples := _ :: s.samples }) (h _ _ hs)

theorem apuUpdate_frame (n : Nat) (s : State) : ∃ a x, apuUpdate n s = { s with apu := a, samples := x } := by
  have key : ∀ (k t : Nat) (a : Apu) (x : List Sample),
      ∃ a' x', apuTicks k t { s with apu := a, samples := x } = { s with apu := a', samples := x' } := by
    intro k
    induction k with
    | zero => exact fun t a x => ⟨a, x, rfl⟩
    | succ k ih => exact fun t a x => ih (t + 2) _ _
  exact key (n / 2) s.cycles s.apu s.samples

/-! ### All four -/

/-- Advancing the devices changes the devices' records, IF, OAM, the framebuffer, the samples and the counter; nothing else. -/
theorem updateCycles_frame (n : Nat) (s : State) :
    ∃ d m p fb k tm a x, updateCycles n s =
      { s with
        dma := d, oam := m, ppu := p, framebuffer := fb, iflag := k, timer := tm, apu := a, samples := x
        cycles := s.cycles + n } := by
  unfold updateCycles
  obtain ⟨d, m, h1⟩ := dmaUpdate_frame n s
  rw [h1]
  obtain ⟨p, fb, k, h2⟩ := ppuUpdate_frame n { s with dma := d, oam := m }
  rw [h2]
  obtain ⟨tm, k', h3⟩ := timerUpdate_frame n { s with dma := d, oam := m, ppu := p, framebuffer := fb, iflag := k }
  rw [h3]
  obtain ⟨a, x, h4⟩ := apuUpdate_frame n { s with dma := d, oam := m, ppu := p, framebuffer := fb, timer := tm, iflag := k' }
  rw [h4]
  exact ⟨d, m, p, fb, k', tm, a, x, rfl⟩

@[simp] theorem updateCycles_cpu (n : Nat) (s : State) : (updateCycles n s).cpu = s.cpu := by
  obtain ⟨d, m, p, fb, k, tm, a, x, h⟩ := updateCycles_frame n s
  rw [h]

@[simp] theorem updateCycles_cart (n : Nat) (s : State) : (updateCycles n s).cart = s.cart := by
  obtain ⟨d, m, p, fb, k, tm, a, x, h⟩ := updateCycles_frame n s
  rw [h]

@[simp] theorem updateCycles_cycles (n : Nat) (s : State) : (updateCycles n s).cycles = s.cycles + n := by
  obtain ⟨d, m, p, fb, k, tm, a, x, h⟩ := updateCycles_frame n s
  rw [h]

end Sys2Proof.Machine
end

