-- ==== Sys2Proof/Laws/Shape.lean ====
section
/-! SUPPORT. What an instruction can do, said once: it changes the CPU's record and writes bytes through the bus, nothing else. From it, what a
step can do: an induction rule for invariants that name no CPU register. -/

namespace Sys2Proof.Machine

/-- States reached by changing the CPU and writing bytes through the bus. -/
inductive BusReach (s : State) : State → Prop where
  | refl : BusReach s s
  | cpu {t : State} (g : Cpu → Cpu) (h : BusReach s t) : BusReach s (t.mapCpu g)
  | write {t : State} (addr : Word16) (v : Byte) (h : BusReach s t) : BusReach s (busWrite addr v t)

theorem BusReach.trans {s t u : State} (h : BusReach s t) (k : BusReach t u) : BusReach s u := by
  induction k with
  | refl => exact h
  | cpu g _ ih => exact .cpu g ih
  | write a v _ ih => exact .write a v ih

theorem writeOp8_reach (o : Op8) (v : Byte) (s : State) : BusReach s (writeOp8 o v s) := by
  cases o <;> first | exact .write _ _ .refl | exact .cpu _ .refl

theorem setFlags_reach (f : Byte) (s : State) : BusReach s (setFlags f s) := .cpu _ .refl

theorem opModify_reach (o : Op8) (g : Byte → Alu) (s : State) : BusReach s (opModify o g s) :=
  (writeOp8_reach o _ s).trans (setFlags_reach _ _)

theorem push16_reach (v : Word16) (s : State) : BusReach s (push16 v s) :=
  .write _ _ (.cpu _ (.write _ _ (.cpu _ .refl)))

theorem jump_reach {s t : State} (a : Word16) (h : BusReach s t) : BusReach s (jump a t) := h.cpu _

theorem opCall_reach (t : Word16) (s : State) : BusReach s (opCall t s) := jump_reach t (push16_reach _ s)

theorem opJr_reach (e : Byte) (s : State) : BusReach s (opJr e s) := jump_reach _ .refl

theorem popSp_reach (s : State) : BusReach s (popSp s) := .cpu _ .refl

theorem opRet_reach (s : State) : BusReach s (opRet s) := jump_reach _ (popSp_reach s)

theorem setA_reach (r : Alu) (s : State) : BusReach s (setA r s) := .cpu _ .refl

theorem opAdd_reach (v : Byte) (s : State) : BusReach s (opAdd v s) := setA_reach _ s
theorem opAdc_reach (v : Byte) (s : State) : BusReach s (opAdc v s) := setA_reach _ s
theorem opSub_reach (v : Byte) (s : State) : BusReach s (opSub v s) := setA_reach _ s
theorem opSbc_reach (v : Byte) (s : State) : BusReach s (opSbc v s) := setA_reach _ s
theorem opAnd_reach (v : Byte) (s : State) : BusReach s (opAnd v s) := setA_reach _ s
theorem opXor_reach (v : Byte) (s : State) : BusReach s (opXor v s) := setA_reach _ s
theorem opOr_reach (v : Byte) (s : State) : BusReach s (opOr v s) := setA_reach _ s
theorem opCp_reach (v : Byte) (s : State) : BusReach s (opCp v s) := setFlags_reach _ s
theorem opBit_reach (b : Nat) (o : Op8) (s : State) : BusReach s (opBit b o s) := setFlags_reach _ s
theorem opRes_reach (b : Nat) (o : Op8) (s : State) : BusReach s (opRes b o s) := writeOp8_reach _ _ s
theorem opSet_reach (b : Nat) (o : Op8) (s : State) : BusReach s (opSet b o s) := writeOp8_reach _ _ s
theorem opInc8_reach (o : Op8) (s : State) : BusReach s (opInc8 o s) := opModify_reach _ _ s
theorem opDec8_reach (o : Op8) (s : State) : BusReach s (opDec8 o s) := opModify_reach _ _ s
theorem opRotateA_reach (g : Byte → Alu) (s : State) : BusReach s (opRotateA g s) := setA_reach _ s
theorem opLoad_reach (dst src : Op8) (s : State) : BusReach s (opLoad dst src s) := writeOp8_reach _ _ s
theorem opLoadA_reach (a : Word16) (s : State) : BusReach s (opLoadA a s) := writeOp8_reach .a _ s
theorem opStoreA_reach (a : Word16) (s : State) : BusReach s (opStoreA a s) := .write _ _ .refl
theorem opMoveHl_reach {s t : State} (d : Word16) (h : BusReach s t) : BusReach s (opMoveHl d t) := h.cpu _
theorem opSetPair_reach (r : Reg16) (w : Word16) (s : State) : BusReach s (opSetPair r w s) := .cpu _ .refl
theorem opAddPair_reach (r : Reg16) (d : Word16) (s : State) : BusReach s (opAddPair r d s) := .cpu _ .refl
theorem opAddHl_reach (r : Reg16) (s : State) : BusReach s (opAddHl r s) := .cpu _ .refl
theorem opPop_reach (r : StackReg) (s : State) : BusReach s (opPop r s) := (popSp_reach s).cpu _
theorem returnFromInterrupt_reach (s : State) : BusReach s (returnFromInterrupt s) := (opRet_reach s).cpu _

theorem opHalt_reach (s : State) : BusReach s (opHalt s) := by
  unfold opHalt
  split
  · exact .cpu _ .refl
  · split <;> exact .cpu _ .refl

theorem whenCond_reach (cc : Cond) (g : State → State) (s : State) (h : BusReach s (g s)) : BusReach s (whenCond cc g s) := by
  unfold whenCond
  split
  · exact h
  · exact .refl

theorem jumpWhen_reach (a : Word16) (s : State) : BusReach s (jump a s) := jump_reach a .refl
theorem loadMove_reach (d a : Word16) (s : State) : BusReach s (opMoveHl d (opLoadA a s)) := opMoveHl_reach d (opLoadA_reach a s)
theorem storeMove_reach (d a : Word16) (s : State) : BusReach s (opMoveHl d (opStoreA a s)) := opMoveHl_reach d (opStoreA_reach a s)
theorem writeWrite_reach (a b : Word16) (u v : Byte) (s : State) : BusReach s (busWrite a u (busWrite b v s)) :=
  .write _ _ (.write _ _ .refl)
theorem mapCpu_reach (g : Cpu → Cpu) (s : State) : BusReach s (s.mapCpu g) := .cpu g .refl

/-- Every instruction answers a state it reaches by CPU changes and bus writes, or locks up. -/
theorem exec_shape (i : Instr) (s : State) : (∃ t, exec i s = .next t ∧ BusReach s t) ∨ ∃ op, exec i s = .fault (.locked op) := by
  cases i <;> first
    | exact .inl ⟨_, rfl, by
        simp only [opLoad_reach, opBit_reach, opRes_reach, opSet_reach, opModify_reach, opInc8_reach, opDec8_reach, opAdd_reach,
          opAdc_reach, opSub_reach, opSbc_reach, opAnd_reach, opXor_reach, opOr_reach, opCp_reach, opCall_reach, whenCond_reach,
          jumpWhen_reach, opJr_reach, opRet_reach, writeOp8_reach, opLoadA_reach, opStoreA_reach, loadMove_reach, storeMove_reach,
          opSetPair_reach, opAddPair_reach, opAddHl_reach, push16_reach, opPop_reach, opRotateA_reach, setA_reach, setFlags_reach,
          returnFromInterrupt_reach, opHalt_reach, BusReach.refl, writeWrite_reach, mapCpu_reach]⟩
    | exact .inr ⟨_, rfl⟩

end Sys2Proof.Machine
end

