-- ==== Sys2Proof/Laws/Step.lean ====
section
/-! SUPPORT. What a step can do, said once: an induction rule for properties of the state that name no CPU register. -/

namespace Sys2Proof.Machine

/-- What CPU changes and bus writes keep, an instruction keeps. -/
theorem BusReach.keeps {P : State → Prop} (cpu : ∀ s g, P s → P (s.mapCpu g)) (bus : ∀ a v s, P s → P (busWrite a v s))
    {s t : State} (h : BusReach s t) (hs : P s) : P t := by
  induction h with
  | refl => exact hs
  | cpu g _ ih => exact cpu _ g ih
  | write a v _ ih => exact bus a v _ ih

/-- An instruction that answers a next state answers one it reaches. -/
theorem exec_reach {i : Instr} {s t : State} (h : exec i s = .next t) : BusReach s t := by
  rcases exec_shape i s with ⟨u, hu, hr⟩ | ⟨op, hf⟩
  · rw [hu] at h; cases h; exact hr
  · rw [hf] at h; cases h

/-- The three ways a step answers a next state. -/
theorem step_cases {s t : State} (h : step s = .next t) :
    s.cpu.locked = none ∧
    ((s.cpu.stopped = true ∧ t = updateCycles 4 s) ∨
     (s.cpu.stopped = false ∧ s.cpu.halt = true ∧ t = interruptCheck (updateCycles 4 s)) ∨
     (s.cpu.stopped = false ∧ s.cpu.halt = false ∧ ∃ u, exec (fetched s).1 (afterFetch s) = .next u ∧
       t = interruptCheck (updateCycles (cost (fetched s).1 (afterFetch s)) (settleEi u)))) := by
  unfold step runStep at h
  split at h
  · cases h
  next hl =>
    refine ⟨hl, ?_⟩
    by_cases hs : s.cpu.stopped = true
    · rw [if_pos hs] at h; cases h; exact .inl ⟨hs, rfl⟩
    · rw [if_neg hs] at h
      by_cases hh : s.cpu.halt = true
      · rw [if_pos hh] at h; cases h; exact .inr (.inl ⟨by simpa using hs, hh, rfl⟩)
      · rw [if_neg hh] at h
        unfold fetchAndRun runInstr at h
        split at h
        next u hu => cases h; exact .inr (.inr ⟨by simpa using hs, by simpa using hh, u, hu, rfl⟩)
        · cases h
        · cases h

/-- Taking an interrupt is a change of IF, then CPU changes and bus writes. -/
theorem takeInterrupt_reach (k : Nat) (s : State) :
    BusReach { s with iflag := s.iflag &&& ~~~(1#5 <<< k) } (takeInterrupt k s) :=
  (BusReach.cpu (fun c => { c with ime := false, enableNext := false, halt := false, haltDI := false }) .refl).trans
    (opCall_reach _ (acknowledge k s))

/-- What CPU changes, bus writes, changes of IF and device updates keep, the interrupt check keeps. -/
theorem interruptCheck_keeps {P : State → Prop} (cpu : ∀ s g, P s → P (s.mapCpu g)) (bus : ∀ a v s, P s → P (busWrite a v s))
    (flag : ∀ s k, P s → P { s with iflag := k }) (upd : ∀ n s, P s → P (updateCycles n s)) {s : State} (h : P s) :
    P (interruptCheck s) := by
  unfold interruptCheck
  split
  · exact h
  · split
    · exact h
    · split
      · exact upd _ _ ((takeInterrupt_reach _ s).keeps cpu bus (flag _ _ h))
      · split
        · exact cpu _ _ h
        · exact h

theorem settleEi_keeps {P : State → Prop} (cpu : ∀ s g, P s → P (s.mapCpu g)) {s : State} (h : P s) : P (settleEi s) := by
  unfold settleEi
  split
  · exact cpu _ _ h
  · exact h

/-- What CPU changes, bus writes, changes of IF and device updates keep, a step keeps. -/
theorem step_keeps {P : State → Prop} (cpu : ∀ s g, P s → P (s.mapCpu g)) (bus : ∀ a v s, P s → P (busWrite a v s))
    (flag : ∀ s k, P s → P { s with iflag := k }) (upd : ∀ n s, P s → P (updateCycles n s)) {s t : State} (h : P s)
    (hs : step s = .next t) : P t := by
  obtain ⟨-, ⟨-, rfl⟩ | ⟨-, -, rfl⟩ | ⟨-, -, u, hu, rfl⟩⟩ := step_cases hs
  · exact upd _ _ h
  · exact interruptCheck_keeps cpu bus flag upd (upd _ _ h)
  · exact interruptCheck_keeps cpu bus flag upd
      (upd _ _ (settleEi_keeps cpu ((exec_reach hu).keeps cpu bus (cpu _ _ h))))

end Sys2Proof.Machine
end

