-- ==== Sys2Proof/Laws/Ops.lean ====
section
/-! SUPPORT. The shared operations in closed form: the stack, the conditions, the pending mask, the running step, and the byte of memory behind
an address. -/

namespace Sys2Proof.Machine

/-- `Push16(v)` as two bus writes and one change of SP (R229). -/
theorem push16_eq (v : Word16) (s : State) :
    push16 v s =
      { busWrite (s.cpu.sp - 2) (lowByte v) (busWrite (s.cpu.sp - 1) (highByte v) s) with
        cpu := { s.cpu with sp := s.cpu.sp - 2 } } := by
  unfold push16 State.mapCpu
  simp only [busWrite_withCpu]
  rw [show s.cpu.sp - 1 - 1 = s.cpu.sp - 2 by bv_omega]

theorem whenCond_true {cc : Cond} {s : State} (g : State → State) (h : s.cpu.cond cc = true) : whenCond cc g s = g s := by
  rw [whenCond, if_pos h]

theorem whenCond_false {cc : Cond} {s : State} (g : State → State) (h : s.cpu.cond cc = false) : whenCond cc g s = s := by
  rw [whenCond, if_neg (by simp [h])]

/-- No source is both pending and enabled, bit by bit (R433). -/
theorem pendingEnabled_eq_zero (s : State) : pendingEnabled s = 0 ↔ ∀ k < 5, s.ie.getLsbD k = false ∨ s.iflag.getLsbD k = false := by
  constructor
  · intro h k hk
    have := congrArg (fun b => b.getLsbD k) h
    simp [pendingEnabled, hk] at this
    grind
  · intro h
    apply BitVec.eq_of_getLsbD_eq
    intro k hk
    have := h k hk
    simp [pendingEnabled, hk]
    grind

/-- The source taken is the lowest set bit (R434). -/
theorem lowestSet_eq : ∀ m : BitVec 5, ∀ k < 5, m.getLsbD k = true → (∀ j < k, m.getLsbD j = false) → lowestSet m = k := by decide

/-- A step of a running CPU is the fetched instruction's run. -/
theorem step_running {s : State} (h : Running s) : step s = runInstr (fetched s).1 (afterFetch s) := by
  obtain ⟨h1, h2, h3⟩ := h
  simp [step, runStep, h1, h2, h3, fetchAndRun]

/-! ### The byte behind an address -/

/-- The byte that a cell reads as: an MBC2 cell has four bits (R141). -/
def cellRead (p : Bank × Nat) (s : State) : Byte :=
  match p.1 with
  | .vram => s.vram.read p.2
  | .wram => s.wram.read p.2
  | .hram => s.hram.read p.2
  | .oam => s.oam.read p.2
  | .eram => if s.cart.kind = .mbc2 then s.eram.read p.2 &&& 0x0F else s.eram.read p.2

/-- The state with a cell written. -/
def cellWrite (p : Bank × Nat) (v : Byte) (s : State) : State :=
  match p.1 with
  | .vram => { s with vram := s.vram.write p.2 v }
  | .wram => { s with wram := s.wram.write p.2 v }
  | .hram => { s with hram := s.hram.write p.2 v }
  | .oam => { s with oam := s.oam.write p.2 v }
  | .eram => { s with eram := s.eram.write p.2 (if s.cart.kind = .mbc2 then v &&& 0x0F else v) }

/-- A bus read of a reachable address of plain memory reads its cell. -/
theorem busRead_cell {a : Word16} {s : State} {p : Bank × Nat} (hr : reachable a s = true) (hc : cellOf a s = some p) :
    busRead a s = cellRead p s := by
  unfold reachable at hr
  simp only [Bool.and_eq_true] at hr
  obtain ⟨⟨h1, h2⟩, h3⟩ := hr
  rw [busRead, if_pos h1]
  unfold cellOf at hc
  unfold regionRead
  cases hreg : region a <;> rw [hreg] at hc h2 h3 <;> simp only [Option.some.injEq, reduceCtorEq] at hc
  case eram =>
    dsimp only
    split at hc
    next h =>
      cases hc
      simp only [Bool.and_eq_true, Bool.or_eq_true, decide_eq_true_eq] at h
      unfold eramRead cellRead
      rw [if_neg (by simp [h.1])]
      split <;> grind
    · cases hc
  all_goals (subst hc; simp_all [cellRead])

/-- A bus write of a reachable address of plain memory writes its cell. -/
theorem busWrite_cell {a : Word16} {v : Byte} {s : State} {p : Bank × Nat} (hr : reachable a s = true) (hc : cellOf a s = some p) :
    busWrite a v s = cellWrite p v s := by
  unfold reachable at hr
  simp only [Bool.and_eq_true] at hr
  obtain ⟨⟨h1, h2⟩, h3⟩ := hr
  rw [busWrite, if_pos h1]
  unfold cellOf at hc
  unfold regionWrite
  cases hreg : region a <;> rw [hreg] at hc h2 h3 <;> simp only [Option.some.injEq, reduceCtorEq] at hc
  case eram =>
    dsimp only
    split at hc
    next h =>
      cases hc
      simp only [Bool.and_eq_true, Bool.or_eq_true, decide_eq_true_eq] at h
      unfold eramWrite cellWrite
      rw [if_neg (by simp [h.1])]
      split <;> grind
    · cases hc
  all_goals (subst hc; simp_all [cellWrite])

/-- A cell write moves no address to another cell. -/
theorem cellOf_cellWrite (b : Word16) (p : Bank × Nat) (v : Byte) (s : State) : cellOf b (cellWrite p v s) = cellOf b s := by
  obtain ⟨k, n⟩ := p
  cases k <;> rfl

/-- A cell write makes no address reachable or unreachable. -/
theorem reachable_cellWrite (b : Word16) (p : Bank × Nat) (v : Byte) (s : State) : reachable b (cellWrite p v s) = reachable b s := by
  obtain ⟨k, n⟩ := p
  cases k <;> rfl

end Sys2Proof.Machine
end

