-- ==== Sys2Proof/Tests/Slice0.lean ====
section
/-! SUPPORT. The model's own tests: ill-formed terms refused, words written out from the encodings, one-step tests whose results are the spec's
examples and vectors (each theorem names its rule or its vector of 95_test_vectors.md), the reset state, and a state that meets the hypotheses
of each statement. -/

namespace Sys2Proof.Machine.Tests

open Claims

set_option maxRecDepth 8000

/-! ### Helpers -/

/-- A machine between two lines' gates (HBlank), about to run `bytes` from work RAM at 0xC800. -/
def prog (bytes : List Byte) (regs : Cpu → Cpu) : State :=
  let s := pokeBytes 0xC800 bytes State.reset
  { s with cpu := regs { s.cpu with pc := 0xC800 }, ppu.mode := .hBlank, ppu.lineCycle := 300 }

/-- The same machine with one more byte in work RAM or high RAM. -/
def withByte (addr : Word16) (v : Byte) (s : State) : State := poke addr v s

/-- A step answers a next state with a property, after a number of cycles. -/
def steps (s : State) (cycles : Nat) (p : State → Bool) : Bool :=
  match step s with
  | .next t => t.cycles == s.cycles + cycles && p t
  | .fault _ => false
  | .refused _ => false

/-- Two steps answer a next state with a property. -/
def twice (s : State) (p : State → Bool) : Bool :=
  match Sys2Proof.core.run 2 s with
  | .next t => p t
  | .fault _ => false
  | .refused _ => false

/-- The byte a bus read gives. -/
def reads (t : State) (addr : Word16) (v : Byte) : Bool := busRead addr t == v

/-- A, F as given. -/
def af (t : State) (a f : Byte) : Bool := t.cpu.a == a && t.cpu.f == f

/-! ### Well-formedness: every ill-formed term is refused -/

theorem wf_refuses_D3 : Instr.invalid_D3.wellFormed = false := by decide
theorem wf_refuses_DB : Instr.invalid_DB.wellFormed = false := by decide
theorem wf_refuses_DD : Instr.invalid_DD.wellFormed = false := by decide
theorem wf_refuses_E3 : Instr.invalid_E3.wellFormed = false := by decide
theorem wf_refuses_E4 : Instr.invalid_E4.wellFormed = false := by decide
theorem wf_refuses_EB : Instr.invalid_EB.wellFormed = false := by decide
theorem wf_refuses_EC : Instr.invalid_EC.wellFormed = false := by decide
theorem wf_refuses_ED : Instr.invalid_ED.wellFormed = false := by decide
theorem wf_refuses_F4 : Instr.invalid_F4.wellFormed = false := by decide
theorem wf_refuses_FC : Instr.invalid_FC.wellFormed = false := by decide
theorem wf_refuses_FD : Instr.invalid_FD.wellFormed = false := by decide
theorem wf_admits_others : Instr.nop.wellFormed = true ∧ (Instr.ld_B_n 0xD3).wellFormed = true ∧ Instr.halt.wellFormed = true := by decide

/-! ### Decoding: words written out bit by bit from the encodings of R171 to R175 -/

/-- LD r,r' is 01 ddd sss, LD r,n is 00 ddd 110, (HL) is code 110 (R172, R200 to R204). -/
theorem decode_loads8 :
    decode [0b01111000] = .ok (.ld_A_B, []) ∧
    decode [0b01010110] = .ok (.ld_D_mHL, []) ∧
    decode [0b01110100] = .ok (.ld_mHL_H, []) ∧
    decode [0b00111110, 0x3C] = .ok (.ld_A_n 0x3C, []) ∧
    decode [0b00110110, 0x99] = .ok (.ld_mHL_n 0x99, []) := by decide

/-- The accumulator loads have their own bytes (R205 to R218). -/
theorem decode_loadsA :
    decode [0b00001010] = .ok (.ld_A_mBC, []) ∧
    decode [0b00010010] = .ok (.ld_mDE_A, []) ∧
    decode [0b11111010, 0x44, 0xFF] = .ok (.ld_A_mnn 0xFF44, []) ∧
    decode [0b11100000, 0x46] = .ok (.ldh_mn_A 0x46, []) ∧
    decode [0b11110010] = .ok (.ld_A_mC, []) ∧
    decode [0b00100010] = .ok (.ld_mHLinc_A, []) ∧
    decode [0b00111010] = .ok (.ld_A_mHLdec, []) := by decide

/-- LD rr,nn is 00 pp 0001, PUSH is 11 pp 0101, POP is 11 pp 0001 (R173, R220 to R235). -/
theorem decode_loads16 :
    decode [0b00110001, 0xFE, 0xFF] = .ok (.ld_SP_nn 0xFFFE, []) ∧
    decode [0b00001000, 0x00, 0xC1] = .ok (.ld_mnn_SP 0xC100, []) ∧
    decode [0b11111001] = .ok (.ld_SP_HL, []) ∧
    decode [0b11000101] = .ok (.push_BC, []) ∧
    decode [0b11110101] = .ok (.push_AF, []) ∧
    decode [0b11010001] = .ok (.pop_DE, []) ∧
    decode [0b11110001] = .ok (.pop_AF, []) := by decide

/-- The ALU forms are 10 yyy zzz and 11 yyy 110, INC 00 rrr 100, DEC 00 rrr 101 (R175, R251 to R266). -/
theorem decode_alu8 :
    decode [0b10000000] = .ok (.add_A_B, []) ∧
    decode [0b11001110, 0x0F] = .ok (.adc_A_n 0x0F, []) ∧
    decode [0b10010110] = .ok (.sub_mHL, []) ∧
    decode [0b10011111] = .ok (.sbc_A_A, []) ∧
    decode [0b11100110, 0x3F] = .ok (.and_n 0x3F, []) ∧
    decode [0b10101111] = .ok (.xor_A, []) := by decide

/-- The ALU forms are 10 yyy zzz and 11 yyy 110, INC 00 rrr 100, DEC 00 rrr 101 (R175, R251 to R266). -/
theorem decode_alu8_more :
    decode [0b10110001] = .ok (.or_C, []) ∧
    decode [0b11111110, 0x40] = .ok (.cp_n 0x40, []) ∧
    decode [0b00111100] = .ok (.inc_A, []) ∧
    decode [0b00000101] = .ok (.dec_B, []) ∧
    decode [0b00110100] = .ok (.inc_mHL, []) ∧
    decode [0b00100111] = .ok (.daa, []) := by decide

/-- INC rr is 00 pp 0011, DEC rr 00 pp 1011, ADD HL,rr 00 pp 1001 (R300 to R304). -/
theorem decode_alu16 :
    decode [0b00010011] = .ok (.inc_DE, []) ∧
    decode [0b00001011] = .ok (.dec_BC, []) ∧
    decode [0b00111001] = .ok (.add_HL_SP, []) ∧
    decode [0b11101000, 0xFF] = .ok (.add_SP_e 0xFF, []) ∧
    decode [0b11111000, 0x02] = .ok (.ld_HL_SPe 0x02, []) := by decide

/-- The CB rotates and shifts are 00 yyy zzz, SWAP being 110 (R320 to R332). -/
theorem decode_shifts :
    decode [0b00000111] = .ok (.rlca, []) ∧
    decode [0b00011111] = .ok (.rra, []) ∧
    decode [0xCB, 0b00000000] = .ok (.rlc_B, []) ∧
    decode [0xCB, 0b00001001] = .ok (.rrc_C, []) ∧
    decode [0xCB, 0b00010101] = .ok (.rl_L, []) := by decide

/-- The CB rotates and shifts are 00 yyy zzz, SWAP being 110 (R320 to R332). -/
theorem decode_shifts_more :
    decode [0xCB, 0b00011111] = .ok (.rr_A, []) ∧
    decode [0xCB, 0b00100110] = .ok (.sla_mHL, []) ∧
    decode [0xCB, 0b00101111] = .ok (.sra_A, []) ∧
    decode [0xCB, 0b00110111] = .ok (.swap_A, []) ∧
    decode [0xCB, 0b00111111] = .ok (.srl_A, []) := by decide

/-- BIT is 01 bbb zzz, RES 10 bbb zzz, SET 11 bbb zzz (R333 to R335). -/
theorem decode_bits :
    decode [0xCB, 0b01111100] = .ok (.bit_7_H, []) ∧
    decode [0xCB, 0b01000110] = .ok (.bit_0_mHL, []) ∧
    decode [0xCB, 0b10000111] = .ok (.res_0_A, []) ∧
    decode [0xCB, 0b11111110] = .ok (.set_7_mHL, []) ∧
    decode [0xCB, 0b11001000] = .ok (.set_1_B, []) := by decide

/-- JP cc 110 cc 010, JR cc 001 cc 000, CALL cc 110 cc 100, RET cc 110 cc 000, RST 11 yyy 111 (R174, R371 to R381). -/
theorem decode_control :
    decode [0b11000011, 0x50, 0x01] = .ok (.jp_nn 0x0150, []) ∧
    decode [0b11001010, 0x00, 0xC0] = .ok (.jp_Z_nn 0xC000, []) ∧
    decode [0b11101001] = .ok (.jp_mHL, []) ∧
    decode [0b00011000, 0x05] = .ok (.jr_e 0x05, []) ∧
    decode [0b00100000, 0xFC] = .ok (.jr_NZ_e 0xFC, []) ∧
    decode [0b11001101, 0x00, 0x20] = .ok (.call_nn 0x2000, []) := by decide

/-- JP cc 110 cc 010, JR cc 001 cc 000, CALL cc 110 cc 100, RET cc 110 cc 000, RST 11 yyy 111 (R174, R371 to R381). -/
theorem decode_control_more :
    decode [0b11011100, 0x00, 0x30] = .ok (.call_C_nn 0x3000, []) ∧
    decode [0b11001001] = .ok (.ret, []) ∧
    decode [0b11010000] = .ok (.ret_NC, []) ∧
    decode [0b11011001] = .ok (.reti, []) ∧
    decode [0b11101111] = .ok (.rst_28h, []) := by decide

/-- HALT is the byte in the place of LD (HL),(HL); STOP takes a second byte (R184, R400 to R404). -/
theorem decode_system :
    decode [0b00000000] = .ok (.nop, []) ∧
    decode [0b01110110] = .ok (.halt, []) ∧
    decode [0b00010000, 0x00] = .ok (.stop 0x00, []) ∧
    decode [0b11110011] = .ok (.di, []) ∧
    decode [0b11111011] = .ok (.ei, []) ∧
    decode [0b11010011] = .ok (.invalid_D3, []) := by decide

/-- A sequence that ends inside an instruction is refused (R170). -/
theorem decode_truncated : decode [0xC3, 0x50] = .error (.truncated 0xC3 1) ∧ decode [0xCB] = .error (.truncated 0xCB 1) ∧
    decode [] = .error .noBytes := by decide

/-- The bytes after an instruction are left over. -/
theorem decode_rest : decode [0x3E, 0x15, 0xC6, 0x27] = .ok (.ld_A_n 0x15, [0xC6, 0x27]) := by decide

/-- The table's numbering: a CB row's word has the prefix in its upper byte, an operand without bits in the table is 0 (log 4). -/
theorem table_words : decodeTableWord 16 0xCB7C = some .bit_7_H ∧ decodeTableWord 8 0x76 = some .halt ∧
    decodeTableWord 8 0xC3 = some (.jp_nn 0x0000) ∧ decodeTableWord 8 0xD3 = some .invalid_D3 := by decide

/-! ### Loads (vectors LD-1 to LD-27) -/

/-- LD-1. -/
theorem test_ld_A_B :
    steps (prog [0x78] (fun c => { c with b := 0x12 })) 4 (fun t => t.cpu.a == 0x12 && t.cpu.pc == 0xC801) = true := by decide

/-- LD-2. -/
theorem test_ld_B_n : steps (prog [0x06, 0x5A] id) 8 (fun t => t.cpu.b == 0x5A) = true := by decide

/-- LD-3. -/
theorem test_ld_A_mHL :
    steps (withByte 0xC000 0x77 (prog [0x7E] (fun c => { c with h := 0xC0, l := 0x00 }))) 8 (fun t => t.cpu.a == 0x77) = true := by decide

/-- LD-4. -/
theorem test_ld_mHL_n :
    steps (prog [0x36, 0x99] (fun c => { c with h := 0xC0, l := 0x10 })) 12 (fun t => reads t 0xC010 0x99) = true := by decide

/-- R203: the high byte of the address itself. -/
theorem test_ld_mHL_H :
    steps (prog [0x74] (fun c => { c with h := 0xC1, l := 0x23 })) 8 (fun t => reads t 0xC123 0xC1) = true := by decide

/-- R202: the old HL is the address. -/
theorem test_ld_H_mHL :
    steps (withByte 0xC000 0x55 (prog [0x66] (fun c => { c with h := 0xC0, l := 0x00 }))) 8 (fun t => t.cpu.h == 0x55 && t.cpu.l == 0x00) = true := by decide

/-- R205. -/
theorem test_ld_A_mBC :
    steps (withByte 0xC010 0x7E (prog [0x0A] (fun c => { c with b := 0xC0, c := 0x10 }))) 8 (fun t => t.cpu.a == 0x7E) = true := by decide

/-- R206. -/
theorem test_ld_A_mDE :
    steps (withByte 0xFF80 0x01 (prog [0x1A] (fun c => { c with d := 0xFF, e := 0x80 }))) 8 (fun t => t.cpu.a == 0x01) = true := by decide

/-- R207. -/
theorem test_ld_mBC_A :
    steps (prog [0x02] (fun c => { c with a := 0x42, b := 0xC0, c := 0x00 })) 8 (fun t => reads t 0xC000 0x42) = true := by decide

/-- LD-5. -/
theorem test_ld_A_mnn : steps (withByte 0xC100 0x33 (prog [0xFA, 0x00, 0xC1] id)) 16 (fun t => t.cpu.a == 0x33) = true := by decide

/-- LD-6. -/
theorem test_ldh_mn_A : steps (prog [0xE0, 0x80] (fun c => { c with a := 0x80 })) 12 (fun t => reads t 0xFF80 0x80) = true := by decide

/-- LD-24: an unmapped IO address. -/
theorem test_ldh_A_mn : steps (prog [0xF0, 0x4C] id) 12 (fun t => t.cpu.a == 0xFF) = true := by decide

/-- LD-7. -/
theorem test_ld_mC_A : steps (prog [0xE2] (fun c => { c with a := 0x11, c := 0x81 })) 8 (fun t => reads t 0xFF81 0x11) = true := by decide

/-- LD-8: HL wraps, the write goes to IE. -/
theorem test_ld_mHLinc_A :
    steps (prog [0x22] (fun c => { c with a := 0x05, h := 0xFF, l := 0xFF })) 8 (fun t => t.ie == 0x05 && t.cpu.h == 0 && t.cpu.l == 0) = true := by decide

/-- LD-9: HL wraps, the read is of ROM. -/
theorem test_ld_A_mHLdec :
    steps (withByte 0x0000 0x3E (prog [0x3A] (fun c => { c with h := 0x00, l := 0x00 }))) 8 (fun t => t.cpu.a == 0x3E && t.cpu.h == 0xFF && t.cpu.l == 0xFF) = true := by decide

/-- LD-10. -/
theorem test_ld_mnn_SP :
    steps (prog [0x08, 0x00, 0xC0] (fun c => { c with sp := 0xFFF8 })) 20 (fun t => reads t 0xC000 0xF8 && reads t 0xC001 0xFF) = true := by decide

/-- LD-11. -/
theorem test_ld_SP_HL : steps (prog [0xF9] (fun c => { c with h := 0xC1, l := 0x00 })) 8 (fun t => t.cpu.sp == 0xC100) = true := by decide

/-- LD-12. -/
theorem test_ld_HL_nn : steps (prog [0x21, 0x34, 0x12] id) 12 (fun t => t.cpu.h == 0x12 && t.cpu.l == 0x34) = true := by decide

/-- LD-13. -/
theorem test_push_AF :
    steps (prog [0xF5] (fun c => { c with a := 0x12, f := 0xB0 })) 16 (fun t => reads t 0xFFFD 0x12 && reads t 0xFFFC 0xB0 && t.cpu.sp == 0xFFFC) = true := by decide

/-- LD-27: the high byte is a mapper write, the low byte goes to IE. -/
theorem test_push_BC :
    steps (prog [0xC5] (fun c => { c with b := 0x12, c := 0x34, sp := 0x0001 })) 16 (fun t => t.ie == 0x34 && t.cpu.sp == 0xFFFF && t.mapper == State.reset.mapper) = true := by decide

/-- LD-14. -/
theorem test_pop_AF :
    steps (withByte 0xFFFD 0x12 (withByte 0xFFFC 0xFF (prog [0xF1] (fun c => { c with sp := 0xFFFC })))) 12 (fun t => af t 0x12 0xF0 && t.cpu.sp == 0xFFFE) = true := by decide

/-- LD-15. -/
theorem test_pop_AF_low :
    steps (withByte 0xFFFC 0x0F (prog [0xF1] (fun c => { c with sp := 0xFFFC }))) 12 (fun t => af t 0x00 0x00) = true := by decide

/-- R231. -/
theorem test_pop_DE :
    steps (withByte 0xFFFD 0x12 (withByte 0xFFFC 0x34 (prog [0xD1] (fun c => { c with sp := 0xFFFC })))) 12 (fun t => t.cpu.d == 0x12 && t.cpu.e == 0x34 && t.cpu.sp == 0xFFFE) = true := by decide

/-- LD-22. -/
theorem test_ld_echo : steps (withByte 0xC123 0x5A (prog [0xFA, 0x23, 0xE1] id)) 16 (fun t => t.cpu.a == 0x5A) = true := by decide

/-- LD-23. -/
theorem test_ld_unused : steps (prog [0xFA, 0xA0, 0xFE] id) 16 (fun t => t.cpu.a == 0x00) = true := by decide

/-! ### Arithmetic and logic (vectors A-1 to A-32, W-1 to W-9) -/

/-- A-1. -/
theorem test_add_B : steps (prog [0x80] (fun c => { c with a := 0x3A, b := 0xC6 })) 4 (fun t => af t 0x00 0xB0) = true := by decide

/-- A-2. -/
theorem test_add_A : steps (prog [0x87] (fun c => { c with a := 0x80 })) 4 (fun t => af t 0x00 0x90) = true := by decide

/-- A-3. -/
theorem test_adc_n : steps (prog [0xCE, 0x0F] (fun c => { c with a := 0xE1, f := 0x10 })) 8 (fun t => af t 0xF1 0x20) = true := by decide

/-- A-4. -/
theorem test_adc_n_wrap :
    steps (prog [0xCE, 0x00] (fun c => { c with a := 0xFF, f := 0x10 })) 8 (fun t => af t 0x00 0xB0) = true := by decide

/-- A-6. -/
theorem test_sub_n : steps (prog [0xD6, 0x0F] (fun c => { c with a := 0x3E })) 8 (fun t => af t 0x2F 0x60) = true := by decide

/-- A-7. -/
theorem test_sub_n_borrow : steps (prog [0xD6, 0x40] (fun c => { c with a := 0x3E })) 8 (fun t => af t 0xFE 0x50) = true := by decide

/-- A-8. -/
theorem test_sbc_n : steps (prog [0xDE, 0x2A] (fun c => { c with a := 0x3B, f := 0x10 })) 8 (fun t => af t 0x10 0x40) = true := by decide

/-- A-9. -/
theorem test_sbc_A : steps (prog [0x9F] (fun c => { c with a := 0x00, f := 0x10 })) 4 (fun t => af t 0xFF 0x70) = true := by decide

/-- A-10. -/
theorem test_and_n : steps (prog [0xE6, 0x3F] (fun c => { c with a := 0x5A })) 8 (fun t => af t 0x1A 0x20) = true := by decide

/-- A-11. -/
theorem test_xor_A : steps (prog [0xAF] (fun c => { c with a := 0x77 })) 4 (fun t => af t 0x00 0x80) = true := by decide

/-- A-12. -/
theorem test_or_n : steps (prog [0xF6, 0x03] (fun c => { c with a := 0x5A })) 8 (fun t => af t 0x5B 0x00) = true := by decide

/-- A-13. -/
theorem test_cp_n : steps (prog [0xFE, 0x2F] (fun c => { c with a := 0x3C })) 8 (fun t => af t 0x3C 0x60) = true := by decide

/-- A-15. -/
theorem test_cp_n_borrow : steps (prog [0xFE, 0x40] (fun c => { c with a := 0x3C })) 8 (fun t => af t 0x3C 0x50) = true := by decide

/-- A-17: C is kept. -/
theorem test_inc_A : steps (prog [0x3C] (fun c => { c with a := 0xFF, f := 0x10 })) 4 (fun t => af t 0x00 0xB0) = true := by decide

/-- A-19. -/
theorem test_dec_A : steps (prog [0x3D] (fun c => { c with a := 0x00, f := 0x10 })) 4 (fun t => af t 0xFF 0x70) = true := by decide

/-- A-20. -/
theorem test_inc_mHL :
    steps (withByte 0xC000 0x0F (prog [0x34] (fun c => { c with h := 0xC0, l := 0x00, f := 0x00 }))) 12 (fun t => reads t 0xC000 0x10 && t.cpu.f == 0x20) = true := by decide

/-- A-21. -/
theorem test_dec_mHL :
    steps (prog [0x35] (fun c => { c with h := 0xC0, l := 0x00, f := 0x00 })) 12 (fun t => reads t 0xC000 0xFF && t.cpu.f == 0x60) = true := by decide

/-- A-23. -/
theorem test_daa_low : steps (prog [0x27] (fun c => { c with a := 0x3C, f := 0x00 })) 4 (fun t => af t 0x42 0x00) = true := by decide

/-- A-26. -/
theorem test_daa_wrap : steps (prog [0x27] (fun c => { c with a := 0x9A, f := 0x00 })) 4 (fun t => af t 0x00 0x90) = true := by decide

/-- A-25, A-27, A-28: DAA after an addition with H, and after subtractions with H and with C. -/
theorem test_daa_paths : aluDaa 0x11 false true false = ⟨0x17, 0x00⟩ ∧ aluDaa 0x2D true true false = ⟨0x27, 0x40⟩ ∧
    aluDaa 0xF0 true false true = ⟨0x90, 0x50⟩ := by decide

/-- A-29. -/
theorem test_cpl : steps (prog [0x2F] (fun c => { c with a := 0x35, f := 0x00 })) 4 (fun t => af t 0xCA 0x60) = true := by decide

/-- A-30. -/
theorem test_scf : steps (prog [0x37] (fun c => { c with f := 0x80 })) 4 (fun t => af t 0x01 0x90) = true := by decide

/-- A-31. -/
theorem test_ccf : steps (prog [0x3F] (fun c => { c with f := 0x90 })) 4 (fun t => af t 0x01 0x80) = true := by decide

/-- A-32. -/
theorem test_ccf_clears_h : steps (prog [0x3F] (fun c => { c with f := 0x20 })) 4 (fun t => af t 0x01 0x10) = true := by decide

/-- W-1. -/
theorem test_inc_DE :
    steps (prog [0x13] (fun c => { c with d := 0x00, e := 0xFF, f := 0xF0 })) 8 (fun t => t.cpu.d == 0x01 && t.cpu.e == 0x00 && t.cpu.f == 0xF0) = true := by decide

/-- W-2. -/
theorem test_dec_BC :
    steps (prog [0x0B] (fun c => { c with b := 0x00, c := 0x00, f := 0x00 })) 8 (fun t => t.cpu.b == 0xFF && t.cpu.c == 0xFF && t.cpu.f == 0x00) = true := by decide

/-- W-3. -/
theorem test_add_HL_BC :
    steps (prog [0x09] (fun c => { c with h := 0x8A, l := 0x23, b := 0x06, c := 0x05, f := 0x80 })) 8 (fun t => t.cpu.h == 0x90 && t.cpu.l == 0x28 && t.cpu.f == 0xA0) = true := by decide

/-- W-4. -/
theorem test_add_HL_HL :
    steps (prog [0x29] (fun c => { c with h := 0x80, l := 0x00, f := 0x00 })) 8 (fun t => t.cpu.h == 0x00 && t.cpu.l == 0x00 && t.cpu.f == 0x10) = true := by decide

/-- W-5. -/
theorem test_add_HL_SP :
    steps (prog [0x39] (fun c => { c with h := 0x0F, l := 0xFF, sp := 0x0001, f := 0x00 })) 8 (fun t => t.cpu.h == 0x10 && t.cpu.l == 0x00 && t.cpu.f == 0x20) = true := by decide

/-- W-6. -/
theorem test_add_SP_e :
    steps (prog [0xE8, 0x02] (fun c => { c with sp := 0xFFF8 })) 16 (fun t => t.cpu.sp == 0xFFFA && t.cpu.f == 0x00) = true := by decide

/-- W-7. -/
theorem test_add_SP_e_negative :
    steps (prog [0xE8, 0xFF] (fun c => { c with sp := 0x0001 })) 16 (fun t => t.cpu.sp == 0x0000 && t.cpu.f == 0x30) = true := by decide

/-- W-8. -/
theorem test_ld_HL_SPe :
    steps (prog [0xF8, 0x01] (fun c => { c with sp := 0x00FF })) 12 (fun t => t.cpu.h == 0x01 && t.cpu.l == 0x00 && t.cpu.f == 0x30 && t.cpu.sp == 0x00FF) = true := by decide

/-- W-9. -/
theorem test_ld_HL_SPe_negative :
    steps (prog [0xF8, 0x80] (fun c => { c with sp := 0xFFF8 })) 12 (fun t => t.cpu.h == 0xFF && t.cpu.l == 0x78 && t.cpu.f == 0x10) = true := by decide

/-! ### Rotates, shifts and bits (vectors RB-1 to RB-19) -/

/-- RB-1. -/
theorem test_rlca : steps (prog [0x07] (fun c => { c with a := 0x85 })) 4 (fun t => af t 0x0B 0x10) = true := by decide

/-- RB-2. -/
theorem test_rlca_zero : steps (prog [0x07] (fun c => { c with a := 0x00, f := 0x80 })) 4 (fun t => af t 0x00 0x00) = true := by decide

/-- RB-3. -/
theorem test_rrca : steps (prog [0x0F] (fun c => { c with a := 0x3B })) 4 (fun t => af t 0x9D 0x10) = true := by decide

/-- RB-4. -/
theorem test_rla : steps (prog [0x17] (fun c => { c with a := 0x95, f := 0x10 })) 4 (fun t => af t 0x2B 0x10) = true := by decide

/-- RB-5. -/
theorem test_rra : steps (prog [0x1F] (fun c => { c with a := 0x81, f := 0x00 })) 4 (fun t => af t 0x40 0x10) = true := by decide

/-- RB-6. -/
theorem test_rlc_B :
    steps (prog [0xCB, 0x00] (fun c => { c with b := 0x85 })) 8 (fun t => t.cpu.b == 0x0B && t.cpu.f == 0x10) = true := by decide

/-- RB-7. -/
theorem test_rlc_B_zero :
    steps (prog [0xCB, 0x00] (fun c => { c with b := 0x00 })) 8 (fun t => t.cpu.b == 0x00 && t.cpu.f == 0x80) = true := by decide

/-- RB-8. -/
theorem test_rrc_C :
    steps (prog [0xCB, 0x09] (fun c => { c with c := 0x01 })) 8 (fun t => t.cpu.c == 0x80 && t.cpu.f == 0x10) = true := by decide

/-- RB-9. -/
theorem test_rl_L :
    steps (prog [0xCB, 0x15] (fun c => { c with l := 0x80, f := 0x00 })) 8 (fun t => t.cpu.l == 0x00 && t.cpu.f == 0x90) = true := by decide

/-- RB-10. -/
theorem test_rr_A : steps (prog [0xCB, 0x1F] (fun c => { c with a := 0x01, f := 0x00 })) 8 (fun t => af t 0x00 0x90) = true := by decide

/-- RB-11. -/
theorem test_sla_D :
    steps (prog [0xCB, 0x22] (fun c => { c with d := 0x80 })) 8 (fun t => t.cpu.d == 0x00 && t.cpu.f == 0x90) = true := by decide

/-- RB-12. -/
theorem test_sra_A : steps (prog [0xCB, 0x2F] (fun c => { c with a := 0x8A })) 8 (fun t => af t 0xC5 0x00) = true := by decide

/-- RB-13. -/
theorem test_swap_A : steps (prog [0xCB, 0x37] (fun c => { c with a := 0xF0 })) 8 (fun t => af t 0x0F 0x00) = true := by decide

/-- RB-14. -/
theorem test_srl_A : steps (prog [0xCB, 0x3F] (fun c => { c with a := 0xFF })) 8 (fun t => af t 0x7F 0x10) = true := by decide

/-- RB-15. -/
theorem test_bit_7_H :
    steps (prog [0xCB, 0x7C] (fun c => { c with h := 0x80, f := 0x10 })) 8 (fun t => t.cpu.f == 0x30 && t.cpu.h == 0x80) = true := by decide

/-- RB-16. -/
theorem test_bit_0_mHL :
    steps (withByte 0xC000 0xFE (prog [0xCB, 0x46] (fun c => { c with h := 0xC0, l := 0x00, f := 0x00 }))) 12 (fun t => t.cpu.f == 0xA0 && reads t 0xC000 0xFE) = true := by decide

/-- RB-17. -/
theorem test_res_0_A :
    steps (prog [0xCB, 0x87] (fun c => { c with a := 0xFF, f := 0xB0 })) 8 (fun t => af t 0xFE 0xB0) = true := by decide

/-- RB-18. -/
theorem test_set_7_mHL :
    steps (prog [0xCB, 0xFE] (fun c => { c with h := 0xC0, l := 0x00, f := 0xB0 })) 16 (fun t => reads t 0xC000 0x80 && t.cpu.f == 0xB0) = true := by decide

/-- RB-19. -/
theorem test_sla_mHL :
    steps (withByte 0xC000 0x80 (prog [0xCB, 0x26] (fun c => { c with h := 0xC0, l := 0x00 }))) 16 (fun t => reads t 0xC000 0x00 && t.cpu.f == 0x90) = true := by decide

/-! ### Control transfer (vectors CT-1 to CT-15; the programs stand at 0xC800) -/

/-- CT-1. -/
theorem test_jp : steps (prog [0xC3, 0x00, 0x20] id) 16 (fun t => t.cpu.pc == 0x2000) = true := by decide

/-- CT-2. -/
theorem test_jp_Z_taken :
    steps (prog [0xCA, 0x00, 0xC0] (fun c => { c with f := 0x80 })) 16 (fun t => t.cpu.pc == 0xC000) = true := by decide

/-- CT-3. -/
theorem test_jp_Z_not_taken :
    steps (prog [0xCA, 0x00, 0xC0] (fun c => { c with f := 0x00 })) 12 (fun t => t.cpu.pc == 0xC803) = true := by decide

/-- CT-4. -/
theorem test_jp_mHL : steps (prog [0xE9] (fun c => { c with h := 0x12, l := 0x34 })) 4 (fun t => t.cpu.pc == 0x1234) = true := by decide

/-- CT-5: 0x80 is -128. -/
theorem test_jr_back : steps (prog [0x18, 0x80] id) 12 (fun t => t.cpu.pc == 0xC782) = true := by decide

/-- CT-6. -/
theorem test_jr_NZ_taken : steps (prog [0x20, 0xFC] (fun c => { c with f := 0x00 })) 12 (fun t => t.cpu.pc == 0xC7FE) = true := by decide

/-- CT-8. -/
theorem test_jr_NZ_not_taken :
    steps (prog [0x20, 0xFC] (fun c => { c with f := 0x80 })) 8 (fun t => t.cpu.pc == 0xC802) = true := by decide

/-- CT-9. -/
theorem test_call :
    steps (prog [0xCD, 0x00, 0x20] id) 24 (fun t => reads t 0xFFFD 0xC8 && reads t 0xFFFC 0x03 && t.cpu.sp == 0xFFFC && t.cpu.pc == 0x2000) = true := by decide

/-- CT-10. -/
theorem test_call_NC_not_taken :
    steps (prog [0xD4, 0x00, 0x20] (fun c => { c with f := 0x10 })) 12 (fun t => t.cpu.pc == 0xC803 && t.cpu.sp == 0xFFFE) = true := by decide

/-- CT-11. -/
theorem test_ret :
    steps (withByte 0xFFFD 0x01 (withByte 0xFFFC 0x53 (prog [0xC9] (fun c => { c with sp := 0xFFFC })))) 16 (fun t => t.cpu.pc == 0x0153 && t.cpu.sp == 0xFFFE) = true := by decide

/-- CT-12. -/
theorem test_ret_Z_not_taken :
    steps (withByte 0xFFFD 0x01 (withByte 0xFFFC 0x53 (prog [0xC8] (fun c => { c with sp := 0xFFFC, f := 0x00 })))) 8 (fun t => t.cpu.pc == 0xC801 && t.cpu.sp == 0xFFFC) = true := by decide

/-- CT-13. -/
theorem test_ret_Z_taken :
    steps (withByte 0xFFFD 0x01 (withByte 0xFFFC 0x53 (prog [0xC8] (fun c => { c with sp := 0xFFFC, f := 0x80 })))) 20 (fun t => t.cpu.pc == 0x0153 && t.cpu.sp == 0xFFFE) = true := by decide

/-- CT-14. -/
theorem test_reti :
    steps (withByte 0xFFFD 0x01 (withByte 0xFFFC 0x53 (prog [0xD9] (fun c => { c with sp := 0xFFFC })))) 16 (fun t => t.cpu.pc == 0x0153 && t.cpu.ime) = true := by decide

/-- CT-15. -/
theorem test_rst_28 :
    steps (prog [0xEF] id) 16 (fun t => reads t 0xFFFD 0xC8 && reads t 0xFFFC 0x01 && t.cpu.pc == 0x0028) = true := by decide

/-- CT-7: a fetch from an unmapped IO address reads 0xFF, RST 38h. -/
theorem test_rst_38_from_io : steps { State.reset with cpu.pc := 0xFF4C } 16 (fun t =>
    reads t 0xFFFD 0xFF && reads t 0xFFFC 0x4D && t.cpu.sp == 0xFFFC && t.cpu.pc == 0x0038) = true := by decide

/-! ### System instructions and interrupts (vectors SY-1 to SY-9, IN-1 to IN-5) -/

/-- SY-1. -/
theorem test_nop : steps (prog [0x00] id) 4 (fun t => t.cpu.pc == 0xC801) = true := by decide

/-- SY-7. -/
theorem test_stop : steps (prog [0x10, 0x00] id) 4 (fun t => t.cpu.stopped && t.cpu.pc == 0xC802) = true := by decide

/-- SY-2: EI, then NOP: the dispatch comes after the NOP and pushes the address after it. -/
theorem test_ei_delay : steps { prog [0xFB, 0x00] id with ie := 0x04, iflag := 0b00100 } 4 (fun t => !t.cpu.ime && t.cpu.pc == 0xC801) = true ∧
    twice { prog [0xFB, 0x00] id with ie := 0x04, iflag := 0b00100 } (fun t =>
      t.cpu.pc == 0x0050 && reads t 0xFFFD 0xC8 && reads t 0xFFFC 0x02 && t.iflag == 0 && !t.cpu.ime && t.cycles == 28) = true := by decide

/-- SY-3: EI, then DI: no dispatch. -/
theorem test_ei_di : twice { prog [0xFB, 0xF3] id with ie := 0x04, iflag := 0b00100 } (fun t =>
    t.cpu.pc == 0xC802 && !t.cpu.ime && !t.cpu.enableNext && t.iflag == 0b00100) = true := by decide

/-- SY-4: HALT with IME 0 and nothing pending. -/
theorem test_halt_di : steps { prog [0x76] id with ie := 0x04 } 4 (fun t => t.cpu.halt && t.cpu.haltDI) = true := by decide

/-- SY-5: EI, HALT: halted as enabled, and served in the same step. -/
theorem test_ei_halt : twice { prog [0xFB, 0x76] id with ie := 0x01, iflag := 0b00001 } (fun t =>
    t.cpu.pc == 0x0040 && reads t 0xFFFC 0x02 && !t.cpu.halt && !t.cpu.haltBug) = true := by decide

/-- SY-6: HALT with IME 1 and an interrupt pending. -/
theorem test_halt_served : steps { prog [0x76] (fun c => { c with ime := true }) with ie := 0x01, iflag := 0b00001 } 24 (fun t =>
    t.cpu.pc == 0x0040 && reads t 0xFFFC 0x01 && !t.cpu.halt) = true := by decide

/-- Scenario 3: the HALT bug makes INC A run twice. -/
theorem test_halt_bug : twice { prog [0x76, 0x3C] id with ie := 0x01, iflag := 0b00001 } (fun t =>
    t.cpu.a == 0x02 && t.cpu.pc == 0xC801 && !t.cpu.haltBug) = true := by decide

/-- SY-8: an invalid opcode locks the CPU up, and every later step of the locked machine does too. -/
theorem test_locked : step (prog [0xD3] id) = .fault (.locked 0xD3) ∧
    step (lockedState 0xD3 (prog [0xD3] id)) = .fault (.locked 0xD3) := ⟨rfl, rfl⟩

/-- SY-9: the same byte as an operand locks nothing. -/
theorem test_invalid_operand : steps (prog [0x3E, 0xD3] id) 8 (fun t => t.cpu.a == 0xD3) = true := by decide

/-- IN-1: the lowest of two pending sources is served. -/
theorem test_dispatch :
    let t := interruptCheck { prog [] (fun c => { c with ime := true, pc := 0x0300 }) with ie := 0x1F, iflag := 0b10100 }
    t.cpu.pc = 0x0050 ∧ t.iflag = 0b10000 ∧ t.cpu.ime = false ∧ busRead 0xFFFD t = 0x03 ∧ busRead 0xFFFC t = 0x00 ∧
      t.cpu.sp = 0xFFFC ∧ t.cycles = 20 := by decide

/-- IN-2: a pending source that is not enabled is not served. -/
theorem test_not_enabled : (interruptCheck { prog [] (fun c => { c with ime := true }) with ie := 0x10, iflag := 0b00001 }).cpu.pc = 0xC800 := by
  decide

/-- IN-3: a push into gated work RAM is lost. -/
theorem test_gated_push :
    let s := { prog [] (fun c => { c with ime := true, sp := 0xDFFE }) with
      ie := 0x01, iflag := 0b00001, dma := { Dma.start 0xC1 with cycles := 100, offset := 25 } }
    let t := interruptCheck s
    t.cpu.sp = 0xDFFC ∧ t.cpu.pc = 0x0040 ∧ t.wram = s.wram := by decide

/-- IN-4, IN-5: the read and write of IF. -/
theorem test_if : readIf { State.reset with iflag := 0b00001 } = 0xE1 ∧ (writeIf 0xFF State.reset).iflag = 0x1F := by decide

/-- R440: a halt entered with IME 0 ends without service. -/
theorem test_wake : steps { prog [] (fun c => { c with halt := true, haltDI := true }) with ie := 0x04, iflag := 0b00100 } 4 (fun t =>
    !t.cpu.halt && !t.cpu.haltDI && t.cpu.pc == 0xC800 && t.iflag == 0b00100) = true := by decide

/-! ### The bus (vectors LD-16 to LD-21, LD-25, LD-26) -/

/-- LD-16, LD-17, LD-18: VRAM is gated in Transfer only, OAM in OAMScan too. -/
theorem test_ppu_gates :
    let s := { State.reset with vram := Memory.ofBytes [0x3C] }
    busRead 0x8000 { s with ppu.mode := .transfer } = 0xFF ∧ busRead 0x8000 { s with ppu.mode := .oamScan } = 0x3C ∧
      busWrite 0xFE00 0x11 { s with ppu.mode := .oamScan } = { s with ppu.mode := .oamScan } := by decide

/-- LD-19, LD-20, LD-21: DMA gates all but high RAM, unless its source is VRAM. -/
theorem test_dma_gate :
    let s := withByte 0xC000 0x21 (withByte 0xFF90 0x44 (prog [] id))
    busRead 0xC000 { s with dma := Dma.start 0xC1 } = 0xFF ∧ busRead 0xFF90 { s with dma := Dma.start 0xC1 } = 0x44 ∧
      busRead 0xC000 { s with dma := Dma.start 0x80 } = 0x21 ∧ busRead 0x8000 { s with dma := Dma.start 0x80 } = 0xFF := by decide

/-- A cartridge with RAM, for the mapper tests. -/
def cartOf (kind : MapperKind) (romSize ramSize : Nat) : Cartridge := ⟨[], romSize, kind, ramSize, false⟩

/-- LD-25, LD-26: external RAM disabled reads 0xFF, past its size 0x00. -/
theorem test_eram :
    let s := State.resetWith (cartOf .mbc1 32768 8192) InitMem.blank
    busRead 0xA000 s = 0xFF ∧
      busRead 0xA000 (busWrite 0x4000 0x01 (busWrite 0x6000 0x01 (busWrite 0x0000 0x0A s))) = 0x00 := by decide

/-- MB-1: scenario 4, the MBC1 banks. -/
theorem test_mbc1 :
    let s := State.resetWith (cartOf .mbc1 2097152 0) InitMem.blank
    (busWrite 0x4000 0x01 (busWrite 0x2000 0x1F s)).mapper.romBank = 0x3F ∧
      (busWrite 0x4000 0x01 (busWrite 0x2000 0x20 s)).mapper.romBank = 0x21 := by decide

/-- MB-2, MB-3: the enable test looks at the low nibble; mode RAM selects the RAM bank. -/
theorem test_mbc1_ram :
    let s := busWrite 0x0000 0x1A (State.resetWith (cartOf .mbc1 32768 32768) InitMem.blank)
    let t := busWrite 0x4000 0x02 (busWrite 0x6000 0x01 s)
    s.mapper.extRamEnabled = true ∧ busRead 0xA000 { t with eram := [(0x4000, 0x77)] } = 0x77 := by decide

/-- MB-4, MB-5, MB-6: MBC2 takes bank 0, ignores a write with bit 8 clear, and keeps four bits. -/
theorem test_mbc2 :
    let s := State.resetWith (cartOf .mbc2 65536 512) InitMem.blank
    (busWrite 0x2100 0x00 s).mapper.romBank = 0 ∧ busWrite 0x2000 0x05 s = s ∧
      busRead 0xA001 (busWrite 0xA201 0xAB (busWrite 0x0000 0x0A s)) = 0x0B := by decide

/-- MB-7, MB-8, MB-9: MBC3 takes 0 as 1, MBC0 ignores writes, the bank is taken modulo the image's banks. -/
theorem test_mappers :
    (busWrite 0x2000 0x00 (State.resetWith (cartOf .mbc3 65536 0) InitMem.blank)).mapper.romBank = 1 ∧
      busWrite 0x2000 0x05 State.reset = State.reset ∧
      romIndex 0x4000 (busWrite 0x2000 0x07 (State.resetWith (cartOf .mbc1 65536 0) InitMem.blank)) = 3 * 0x4000 := by decide

/-- R102: the low byte of a 16-bit access is the one at the lower address, and an IO write reads back with its mask (RT1). -/
theorem test_read_back : busRead 0xFF07 (busWrite 0xFF07 0x00 State.reset) = 0xF8 ∧ busRead 0xFF02 (busWrite 0xFF02 0x81 State.reset) = 0xFF := by
  decide

/-! ### Devices -/

/-- Scenario 1 (corrected, C1): TIMA at 16, 32 and 36 cycles. -/
theorem test_timer :
    let s := { State.reset with timer := { State.reset.timer with on := true, clockSelect := 1, tima := 0xFE } }
    (timerUpdate 16 s).timer.tima = 0xFF ∧ (timerUpdate 32 s).timer.tima = 0x00 ∧ (timerUpdate 32 s).timer.timaOverflow = true ∧
      (timerUpdate 32 s).iflag = 0 ∧ (timerUpdate 36 s).iflag = 0b00100 ∧ (timerUpdate 36 s).timer.timaOverflow = false := by decide

/-- TM-2 to TM-8: the glitches of DIV and TAC writes, and the reads. -/
theorem test_timer_writes :
    let t : Timer := { State.reset.timer with on := true, clockSelect := 1, divCounter := 0x0008, tima := 0x10 }
    t.writeDiv = { t with divCounter := 0, tima := 0x11 } ∧ ({ t with divCounter := 0x0010 }).writeDiv.tima = 0x10 ∧
      (t.writeTac 0x04).tima = 0x11 ∧ (t.writeTac 0x01).tima = 0x11 ∧ (({ t with on := false }).writeTac 0x05).tima = 0x10 ∧
      ({ t with divCounter := 0xABCD }).readDiv = 0xAB ∧ t.readTac = 0xFD := by decide

/-- DM-1: the instruction that starts a transfer copies its first three bytes. -/
theorem test_dma_start : steps (withByte 0xC802 0x99 (prog [0xE0, 0x46] (fun c => { c with a := 0xC8 }))) 12 (fun t =>
    t.dma.active && t.dma.cycles == 12 && t.dma.offset == 3 && t.oam.read 0 == 0xE0 && t.oam.read 2 == 0x99) = true := by decide

/-- DM-3, DM-4: a source from 0xFE00 up reads 0xFF, the echo reads work RAM. -/
theorem test_dma_source : dmaSourceRead 0xFE00 State.reset = 0xFF ∧ dmaSourceRead 0xE100 (withByte 0xC100 0x21 State.reset) = 0x21 := by decide

/-- DM-6, DM-7: a restart is dropped under the gate, taken when the source is VRAM. -/
theorem test_dma_restart :
    (busWrite 0xFF46 0xC2 { State.reset with dma := Dma.start 0xC1 }).dma = Dma.start 0xC1 ∧
      (busWrite 0xFF46 0x81 { State.reset with dma := { Dma.start 0x80 with offset := 5, cycles := 20 } }).dma = Dma.start 0x81 := by decide

/-- PP-2: the modes change at line cycles 80, 252 and 456. -/
theorem test_ppu_modes :
    let s := fun (m : PpuMode) (lc : Nat) => { State.reset with ppu := { State.reset.ppu with mode := m, lineCycle := lc } }
    (ppuCycle (s .oamScan 78)).ppu.mode = .oamScan ∧ (ppuCycle (s .transfer 251)).ppu.mode = .hBlank ∧
      (ppuCycle (s .hBlank 455)).ppu.mode = .oamScan ∧ (ppuCycle (s .hBlank 455)).ppu.ly = 1 := by decide

/-- PP-4: the LYC compare at the new line raises the STAT interrupt. -/
theorem test_lyc : (ppuCycle { State.reset with
      ppu := { State.reset.ppu with mode := .hBlank, lineCycle := 455, lyc := 1, statEnables := 0b1000 } }).iflag = 0b00010 := by decide

/-- Scenario 2: VBlank at line 144, the frame's end after line 153. -/
theorem test_vblank :
    let s := fun (m : PpuMode) (ly : Byte) => { State.reset with ppu := { State.reset.ppu with mode := m, lineCycle := 455, ly := ly } }
    (ppuCycle (s .hBlank 143)).iflag = 0b00001 ∧ (ppuCycle (s .hBlank 143)).ppu.mode = .vBlank ∧
      (ppuCycle (s .vBlank 153)).ppu.ly = 0 ∧ (ppuCycle (s .vBlank 153)).ppu.newFrameEdge = true := by decide

/-- PP-5, PP-6: an LYC write compares without interrupt; the display switched off is in VBlank. -/
theorem test_lcd_writes :
    let s := { State.reset with ppu := { State.reset.ppu with lyc := 5, coincidence := false, statEnables := 0b1000 } }
    (busWrite 0xFF45 0x00 s).ppu.coincidence = true ∧ (busWrite 0xFF45 0x00 s).iflag = 0 ∧
      (busWrite 0xFF40 0x11 State.reset).ppu.mode = .vBlank ∧ busRead 0xFF44 (busWrite 0xFF40 0x11 State.reset) = 0 := by decide

/-- PP-8: the first two pixels of a line with tile 1 at the top left. -/
theorem test_bg_pixels :
    let vram := ((Memory.write [] 0x1800 0x01).write 0x10 0x80)
    State.reset.ppu.bgPixel vram 0 0 = ⟨1, ⟨0x00, 0x00, 0x00, 0xFF⟩⟩ ∧ State.reset.ppu.bgPixel vram 0 1 = ⟨0, ⟨0xFF, 0xFF, 0xFF, 0xFF⟩⟩ := by
  decide

/-- PP-9, PP-10: signed tile data. -/
theorem test_signed_tiles :
    let p := { State.reset.ppu with lcdc := 0x81 }
    p.tileOffset 0x80 = 0x0800 ∧ p.tileOffset 0x00 = 0x1000 ∧ State.reset.ppu.tileOffset 0x80 = 0x0800 := by decide

/-- R553 (a), (b): objects are sorted by X, equal X by OAM order. -/
theorem test_object_order :
    selectObjects (Memory.ofBytes [16, 24, 0, 0, 16, 8, 0, 0]) 8 0 = [1, 0] ∧
      selectObjects (Memory.ofBytes [16, 20, 0, 0, 16, 20, 1, 0]) 8 0 = [0, 1] := by decide

/-- PP-12: of eleven objects on a line the first ten in OAM are taken. -/
theorem test_ten_objects :
    selectObjects (Memory.ofBytes (List.flatten (List.replicate 11 [16, 8, 0, 0]))) 8 0 = [0, 1, 2, 3, 4, 5, 6, 7, 8, 9] := by decide

/-- R553 (c): the halves of an 8x16 object, plain and flipped. -/
theorem test_tall_objects :
    let oam := Memory.ofBytes [16, 8, 0x05, 0x00, 16, 8, 0x05, 0x40]
    objTileAt oam 16 (objRow oam 16 3 0) 0 = 0x04 ∧ objTileAt oam 16 (objRow oam 16 12 0) 0 = 0x05 ∧
      objTileAt oam 16 (objRow oam 16 3 1) 1 = 0x05 ∧ objRow oam 16 3 1 % 8 = 4 ∧ objTileAt oam 16 (objRow oam 16 12 1) 1 = 0x04 := by decide

/-- R553 (d), (e): the window covers from WX - 7, and never beyond WX 166. -/
theorem test_window :
    let p := { State.reset.ppu with lcdc := 0xB1, wx := 3 }
    p.windowCovers 0 0 = true ∧ ({ p with wx := 167 }).windowDrawn 0 = false ∧ p.windowDrawn 0 = true := by decide

/-- AP-2: the APU switched off. -/
theorem test_power_off :
    let s := busWrite 0xFF26 0x00 State.reset
    busRead 0xFF26 s = 0x70 ∧ busRead 0xFF11 s = 0x3F ∧ busRead 0xFF10 s = 0x80 ∧ s.apu.ch1.length = 64 ∧ s.apu.ch3.length = 256 := by decide

/-- AP-3, AP-4, AP-5: writes while off, and switching on. -/
theorem test_power_on :
    let s := busWrite 0xFF26 0x00 State.reset
    busRead 0xFF12 (busWrite 0xFF12 0xF0 s) = 0x00 ∧ (busWrite 0xFF11 0xBF s).apu.ch1.length = 1 ∧
      busRead 0xFF11 (busWrite 0xFF11 0xBF s) = 0x3F ∧ (busWrite 0xFF26 0x80 s).apu.fsStep = 7 := by decide

/-- R651 (scenario 6, corrected, C5): the extra length clock, again only after the enable was cleared. -/
theorem test_extra_length_clock :
    let p := { State.reset.apu with fsStep := 6, ch1 := { State.reset.apu.ch1 with length := 63 } }
    (p.writeNr14 0x40).ch1.length = 62 ∧ ((p.writeNr14 0x40).writeNr14 0x40).ch1.length = 62 ∧
      (((p.writeNr14 0x40).writeNr14 0x00).writeNr14 0x40).ch1.length = 61 := by decide

/-- R652: an enable with a trigger on length 1 gives MAX - 1, on length 2 gives 1. -/
theorem test_length_trigger :
    let p := fun (n : Nat) => { State.reset.apu with fsStep := 6, ch2 := { State.reset.apu.ch2 with length := n } }
    ((p 1).writeNr24 0xC0).ch2.length = 63 ∧ ((p 0).writeNr24 0xC0).ch2.length = 63 ∧ ((p 2).writeNr24 0xC0).ch2.length = 1 := by decide

/-- R653 (a): the mixer. -/
theorem test_mixer :
    let p := { State.reset.apu with ch1 := { State.reset.apu.ch1 with dutyBit := true }, nr51 := 0x11 }
    p.mix = ⟨15360, 15360⟩ ∧ ({ p with nr50 := 0x00 }).mix = ⟨1920, 1920⟩ := by decide

/-- R653 (b): a sweep overflow at the trigger disables ch1. -/
theorem test_sweep_overflow : ((State.reset.apu.writeNr10 0x11).writeNr14 0x87).ch1.status = false := by decide

/-- R653 (c): the LFSR, 15 and 7 bits wide. -/
theorem test_lfsr : lfsrNext false 0x7FFF = 0x3FFF ∧ lfsrNext true 0x7FFF = 0x3FBF := by decide

/-- R653 (d): the envelope of volume 2, down, period 1. -/
theorem test_envelope :
    let e : Envelope := ⟨2, false, 1, 1, 2, true⟩
    e.clock.volume = 1 ∧ e.clock.clock.volume = 0 ∧ e.clock.clock.automatic = true ∧ e.clock.clock.clock.automatic = false := by decide

/-- AP-6 to AP-8: the periods. -/
theorem test_periods : State.reset.apu.ch1.period = 1024 ∧ ({ State.reset.apu.ch3 with freq := 0x7FF } : Wave).period = 2 ∧
    State.reset.apu.ch4.period = 8 := by decide

/-- AP-10, AP-11: wave RAM while ch3 plays and while it does not. -/
theorem test_wave_ram :
    busRead 0xFF30 { State.reset with apu.ch3.status := true } = 0xFF ∧ busRead 0xFF30 (busWrite 0xFF30 0x12 State.reset) = 0x12 := by decide

/-- R676 (a), (b): the rows of JOYP. -/
theorem test_joypad_rows :
    let keys : Keys := { State.reset.joypad.keys with right := true, a := true }
    busRead 0xFF00 (busWrite 0xFF00 0x20 State.reset) = 0xEF ∧ busRead 0xFF00 (busWrite 0xFF00 0x10 (setKeys keys State.reset)) = 0xDE ∧
      busRead 0xFF00 (busWrite 0xFF00 0x20 (setKeys keys State.reset)) = 0xEE ∧
      busRead 0xFF00 (busWrite 0xFF00 0x00 (setKeys keys State.reset)) = 0xCE ∧
      busRead 0xFF00 (busWrite 0xFF00 0x30 (setKeys keys State.reset)) = 0xFF := by decide

/-- R676 (c), (d), R673: the interrupt of a selected row only, and the STOP wake. -/
theorem test_key_press :
    let keys : Keys := { State.reset.joypad.keys with start := true }
    (setKeys keys (busWrite 0xFF00 0x10 State.reset)).iflag = 0b10000 ∧ (setKeys keys (busWrite 0xFF00 0x20 State.reset)).iflag = 0 ∧
      (setKeys keys { State.reset with cpu.stopped := true }).cpu.stopped = false := by decide

/-- MB-10, MB-11: the creation checks. -/
theorem test_creation :
    create (List.replicate 20 0x00) InitMem.blank none = .error (.romTooSmall 20) ∧ cartTypeTable.lookup 0x19 = none ∧
      romSizeOfCode 9 = none ∧ romSizeOfCode 8 = some 8388608 := by decide

/-! ### The reset state is the base state after the post-boot writes (R711 to R714) -/

/-- An envelope, a square channel and the APU of the base state: every field 0 (R711). -/
def baseEnv : Envelope := ⟨0, false, 0, 0, 0, false⟩
def baseSquare : Square := ⟨0, 0, 0, 0, false, 0, false, baseEnv, false, false⟩
def baseApu (waveRam : Memory) : Apu where
  powered := false
  nr50 := 0
  nr51 := 0
  fsStep := 0
  fsCounter := 0
  ch1 := baseSquare
  sweep := ⟨0, false, 0, 0, 0, false, false⟩
  ch2 := baseSquare
  ch3 := ⟨false, 0, waveRam, 0, 0, 0, 0, ⟨none, 0, 0, 0⟩, ⟨none, 0, 0, 0⟩, false, 0, false, false⟩
  ch4 := ⟨0, false, 0, 0, 0, false, 0, false, baseEnv, false, false⟩

/-- The base state of R711, given as its differences from the reset state. -/
def base (cart : Cartridge) (init : InitMem) : State :=
  { State.resetWith cart init with
    ppu :=
      { lcdc := 0, statEnables := 0, scy := 0, scx := 0, ly := 0, lyc := 0, bgp := 0, obp0 := 0, obp1 := 0, wy := 0, wx := 0
        mode := .vBlank, lineCycle := 0, coincidence := false, cachedWy := 0, windowLine := 0, frameCounter := 0, fakeLy := 0
        newFrameEdge := false }
    apu := baseApu init.waveRam }

/-- The writes of R713, in order. -/
def postBoot : List (Word16 × Byte) :=
  [(0xFF26, 0x80), (0xFF10, 0x80), (0xFF11, 0xBF), (0xFF12, 0xF3), (0xFF14, 0xBF), (0xFF16, 0x3F), (0xFF17, 0x00), (0xFF19, 0xBF),
   (0xFF1A, 0x7F), (0xFF1B, 0xFF), (0xFF1C, 0x9F), (0xFF1E, 0xBF), (0xFF20, 0xFF), (0xFF21, 0x00), (0xFF22, 0x00), (0xFF23, 0xBF),
   (0xFF24, 0x77), (0xFF25, 0xF3), (0xFF26, 0xF1), (0xFF42, 0x00), (0xFF43, 0x00), (0xFF45, 0x00), (0xFF47, 0xFC), (0xFF48, 0xFF),
   (0xFF49, 0xFF), (0xFF4A, 0x00), (0xFF4B, 0x00), (0xFF40, 0x91)]

/-- The PPU and the APU of the reset state are the base state's after the post-boot writes, and nothing else changes. -/
theorem reset_is_base_after_postBoot :
    postBoot.foldl (fun s p => busWrite p.1 p.2 s) (base Cartridge.blank InitMem.blank) = State.reset := by decide

/-! ### The step the host takes: the first instruction after reset, from an opcode-table word -/

/-- LD A,n with operand 0, then RST 38h, BIT 7,H and an invalid opcode, as the very next step. -/
theorem fetch_word_runs :
    steps (State.reset.withFetchWord 8 0x3E) 8 (fun t => t.cpu.a == 0x00 && t.cpu.pc == 0x0102) = true ∧
      steps (State.reset.withFetchWord 8 0xFF) 16 (fun t => t.cpu.pc == 0x0038) = true ∧
      steps (State.reset.withFetchWord 16 0xCB7C) 8 (fun t => t.cpu.f == 0xB0) = true ∧
      step (State.reset.withFetchWord 8 0xD3) = .fault (.locked 0xD3) := ⟨by decide, by decide, by decide, rfl⟩

/-- A suspended, gated machine is made ready too. -/
theorem fetch_word_ready :
    steps ({ State.reset with cpu.halt := true, cpu.pc := 0x8000, dma := Dma.start 0xC1 }.withFetchWord 8 0x3C) 4 (fun t =>
      t.cpu.a == 0x02 && t.cpu.pc == 0xC001) = true := by decide

/-! ### Witnesses: states and operands that meet the hypotheses of the statements -/

theorem witness_conditions : ∀ cc : Cond, ∃ f g : Byte, Holds cc { State.reset.cpu with f := f } ∧ ¬Holds cc { State.reset.cpu with f := g } := by
  intro cc
  cases cc
  · exact ⟨0x00, 0x80, by simp only [Holds]; decide, by simp only [Holds]; decide⟩
  · exact ⟨0x80, 0x00, by simp only [Holds]; decide, by simp only [Holds]; decide⟩
  · exact ⟨0x00, 0x10, by simp only [Holds]; decide, by simp only [Holds]; decide⟩
  · exact ⟨0x10, 0x00, by simp only [Holds]; decide, by simp only [Holds]; decide⟩

/-- HaltSuspendsOrSetsTheHaltBug: IME 1, the latch set, the two cases of IME 0, the highest source included. -/
theorem witness_halt :
    ({ State.reset with cpu.ime := true } : State).cpu.ime = true ∧ ({ State.reset with cpu.eiPending := true } : State).cpu.eiPending = true ∧
      (State.reset.cpu.ime = false ∧ State.reset.cpu.eiPending = false) ∧
      (∃ k < 5, ({ State.reset with ie := 0x10, iflag := 0b10000 } : State).ie.getLsbD k = true ∧
        ({ State.reset with ie := 0x10, iflag := 0b10000 } : State).iflag.getLsbD k = true) ∧
      (∀ k < 5, State.reset.ie.getLsbD k = false ∨ State.reset.iflag.getLsbD k = false) := by decide

theorem poke_cpu (a : Word16) (v : Byte) (s : State) : (poke a v s).cpu = s.cpu := by unfold poke; split <;> rfl
theorem pokeBytes_cpu (a : Word16) (bytes : List Byte) (s : State) : (pokeBytes a bytes s).cpu = s.cpu := by
  induction bytes generalizing a s with
  | nil => rfl
  | cons v rest ih => exact (ih (a + 1) (poke a v s)).trans (poke_cpu a v s)
theorem prog_cpu (bytes : List Byte) (regs : Cpu → Cpu) : (prog bytes regs).cpu = regs { State.reset.cpu with pc := 0xC800 } := by
  simp only [prog, pokeBytes_cpu]

/-- A program with nothing suspended runs. -/
theorem running_prog (bytes : List Byte) : Running (prog bytes id) ∧ Running (prog bytes (fun c => { c with enableNext := true })) := by
  simp only [Running, prog_cpu]
  decide
theorem running_reset : Running State.reset := ⟨rfl, rfl, rfl⟩

/-- InvalidOpcodesLockUp: a running machine with each invalid byte at PC, and a locked one. -/
theorem witness_invalid :
    (∀ op ∈ invalidOpcodes, busRead (prog [op] id).cpu.pc (prog [op] id) = op) ∧ (∀ op : Byte, Running (prog [op] id)) ∧
      ({ State.reset with cpu.locked := some 0xFD } : State).cpu.locked = some 0xFD :=
  ⟨by decide, fun op => (running_prog [op]).1, rfl⟩

theorem prog_bytes : busRead 0xC800 (prog [0x3E, 0x15] id) = 0x3E ∧ busRead 0xC801 (prog [0x3E, 0x15] id) = 0x15 ∧
    busRead 0xC802 (prog [0x3E, 0x15] id) = 0x00 := by decide

/-- StepRunsTheDecodedInstruction, with a next state, with a fault, and with the HALT bug. -/
theorem witness_step :
    Running (prog [0x3E, 0x15] id) ∧
      decode [busRead 0xC800 (prog [0x3E, 0x15] id), busRead 0xC801 (prog [0x3E, 0x15] id), busRead 0xC802 (prog [0x3E, 0x15] id)]
        = .ok (.ld_A_n 0x15, [0x00]) ∧
      (∃ t, exec (.ld_A_n 0x15) (prog [0x3E, 0x15] id) = .next t) ∧
      exec .invalid_D3 (prog [0xD3] id) = .fault (.locked 0xD3) ∧
      Running { prog [0x3E, 0x15] id with cpu.haltBug := true } ∧
      decode [busRead 0xC800 (prog [0x3E, 0x15] id), busRead 0xC800 (prog [0x3E, 0x15] id), busRead 0xC801 (prog [0x3E, 0x15] id)]
        = .ok (.ld_A_n 0x3E, [0x15]) := by
  simp only [prog_bytes]
  exact ⟨(running_prog _).1, rfl, ⟨_, rfl⟩, rfl, (running_prog [0x3E, 0x15]).1, rfl⟩

/-- SuspendedStepsIdleFourCycles. -/
theorem witness_suspended :
    ({ State.reset with cpu.stopped := true } : State).cpu.locked = none ∧ ({ State.reset with cpu.stopped := true } : State).cpu.stopped = true ∧
      ({ State.reset with cpu.halt := true } : State).cpu.stopped = false ∧ ({ State.reset with cpu.halt := true } : State).cpu.halt = true := by
  decide

/-- EiTakesEffectAfterTheNextInstruction: after EI and without, for NOP, DI and EI. -/
theorem witness_ei :
    (∀ op : Byte, Running (prog [op] (fun c => { c with enableNext := true })) ∧ Running (prog [op] id)) ∧
      (prog [0x00] (fun c => { c with enableNext := true })).cpu.enableNext = true ∧ (prog [0x00] id).cpu.enableNext = false ∧
      (fetched (prog [0x00] id)).1 = .nop ∧ (fetched (prog [0xF3] id)).1 = .di ∧ (fetched (prog [0xFB] id)).1 = .ei ∧
      (∀ s, (∃ t, exec .nop s = .next t) ∧ (∃ t, exec .di s = .next t) ∧ ∃ t, exec .ei s = .next t) :=
  ⟨fun op => ⟨(running_prog [op]).2, (running_prog [op]).1⟩, by decide, by decide, by decide, by decide, by decide, fun _ => ⟨⟨_, rfl⟩, ⟨_, rfl⟩, ⟨_, rfl⟩⟩⟩

/-- InterruptCheckDispatchesTheLowestSource: every k with all higher sources pending too, IME 1 and 0, halted and not. -/
theorem witness_interrupt :
    (∀ k < 5, ((0x1F : Byte).getLsbD k = true ∧ ((0b11111#5 <<< k)).getLsbD k = true ∧
      ∀ j < k, (0x1F : Byte).getLsbD j = false ∨ ((0b11111#5 <<< k)).getLsbD j = false)) ∧
      State.reset.cpu.locked = none ∧ State.reset.cpu.stopped = false ∧ State.reset.cpu.ime = false ∧ State.reset.cpu.halt = false ∧
      ({ State.reset with cpu.locked := some 0xD3 } : State).cpu.locked ≠ none := by decide

/-- BusReadsFollowTheRegionMap, BusWritesFollowTheRegionMap: an open and a shut gate, by each clause, at the edges of the regions. -/
theorem witness_gate :
    GateOpen 0x0000 State.reset ∧ GateOpen 0xFF80 { State.reset with dma := Dma.start 0xC1 } ∧
      GateOpen 0xFFFE { State.reset with dma := Dma.start 0xC1 } ∧ GateOpen 0x7FFF { State.reset with dma := Dma.start 0x80 } := by
  refine ⟨?_, ?_, ?_, ?_⟩ <;> (simp only [GateOpen]; decide)

theorem witness_gate_more :
    GateOpen 0xA000 { State.reset with dma := Dma.start 0x9F } ∧ ¬GateOpen 0xFF7F { State.reset with dma := Dma.start 0xC1 } ∧
      ¬GateOpen 0xFFFF { State.reset with dma := Dma.start 0xA0 } ∧ ¬GateOpen 0xFE9F { State.reset with dma := Dma.start 0x80 } := by
  refine ⟨?_, ?_, ?_, ?_⟩ <;> (simp only [GateOpen]; decide)

/-- The edges of the regions, each address under one clause only. -/
theorem witness_regions :
    region 0x0000 = .rom0 ∧ region 0x3FFF = .rom0 ∧ region 0x4000 = .romN ∧ region 0x7FFF = .romN ∧ region 0x8000 = .vram ∧
      region 0x9FFF = .vram ∧ region 0xA000 = .eram ∧ region 0xBFFF = .eram := by decide

theorem witness_regions_high :
    region 0xC000 = .wram0 ∧ region 0xDFFF = .wramN ∧ region 0xE000 = .echo ∧ region 0xFDFF = .echo ∧ region 0xFE00 = .oam ∧
      region 0xFE9F = .oam ∧ region 0xFEA0 = .unused ∧ region 0xFEFF = .unused ∧ region 0xFF80 = .hram := by decide

theorem witness_unmapped :
    Unmapped 0xFF03 ∧ Unmapped 0xFF08 ∧ Unmapped 0xFF0E ∧ Unmapped 0xFF15 ∧ Unmapped 0xFF1F ∧ Unmapped 0xFF27 ∧ Unmapped 0xFF2F ∧
      Unmapped 0xFF4C ∧ Unmapped 0xFF7F := by simp [Unmapped]

/-- The reset state with ch3 playing and its two log slots at given times. -/
def waveState (t0 t1 : Option Nat) : State :=
  { State.reset with
    apu := { State.reset.apu with
      ch3 := { State.reset.apu.ch3 with status := true, position := 6, log0 := ⟨t0, 5, 0x5A, 0xA⟩, log1 := ⟨t1, 6, 0xC3, 0xC⟩ } } }

/-- The wave RAM clauses of BusReadsFollowTheRegionMap and BusWritesFollowTheRegionMap, at both edges: ch3 silent, playing with one slot of this
cycle, with the other, with none. -/
theorem witness_wave :
    region 0xFF30 = .wave ∧ region 0xFF3F = .wave ∧ GateOpen 0xFF30 State.reset ∧ GateOpen 0xFF3F (waveState none none) ∧
      State.reset.apu.ch3.status = false ∧ (waveState (some 0) none).apu.ch3.status = true ∧ (waveState none none).cycles = 0 ∧
      (waveState (some 0) none).apu.ch3.log0.time = some 0 ∧ (waveState (some 0) none).apu.ch3.log1.time ≠ some 0 ∧
      (waveState none (some 0)).apu.ch3.log0.time ≠ some 0 ∧ (waveState none (some 0)).apu.ch3.log1.time = some 0 := by
  simp only [GateOpen]
  decide

/-- R640: a read of wave RAM while ch3 plays gives the byte clocked in this cycle, or 0xFF. -/
theorem test_wave_read :
    busRead 0xFF3F (waveState (some 0) none) = 0x5A ∧ busRead 0xFF30 (waveState none (some 0)) = 0xC3 ∧
      busRead 0xFF30 (waveState none none) = 0xFF := by decide

/-- R640: a write while ch3 plays lands at the playing position (6, so byte 3) or is dropped. -/
theorem test_wave_write :
    (busWrite 0xFF30 0x99 (waveState (some 0) none)).apu.ch3.ram = [(3, 0x99)] ∧
      (busWrite 0xFF30 0x99 (waveState none none)).apu.ch3.ram = [] ∧ (busWrite 0xFF3F 0x99 State.reset).apu.ch3.ram = [(15, 0x99)] := by
  decide

/-- PlainMemoryReadsBackWhatWasWritten: a cell and its echo, and a cell of MBC2 RAM by two addresses. -/
theorem witness_cells :
    (reachable 0xC123 State.reset = true ∧ reachable 0xE123 State.reset = true ∧
      cellOf 0xC123 State.reset = some (.wram, 0x123) ∧ cellOf 0xE123 State.reset = some (.wram, 0x123)) ∧
      (let s := busWrite 0x0000 0x0A (State.resetWith (cartOf .mbc2 65536 512) InitMem.blank)
       reachable 0xA001 s = true ∧ reachable 0xA201 s = true ∧ cellOf 0xA001 s = some (.eram, 1) ∧ cellOf 0xA201 s = some (.eram, 1)) := by
  decide

/-- StoringFormsLeaveOtherBytesAlone: a store at HL, a push, and an address whose cell is another. -/
theorem witness_store :
    (∃ t, exec .ld_mHL_B { State.reset with cpu.h := 0xC0 } = .next t) ∧ cellOf 0xC04D State.reset ≠ none ∧
      (∃ t, exec .push_BC State.reset = .next t) ∧ cellOf 0xFFFD State.reset ≠ none ∧ cellOf 0xFFFC State.reset ≠ none ∧
      cellOf 0xC04D State.reset ≠ cellOf 0xC04E State.reset ∧ cellOf 0xFFFC State.reset ≠ cellOf 0xFFFB State.reset :=
  ⟨⟨_, rfl⟩, by decide, ⟨_, rfl⟩, by decide, by decide, by decide, by decide⟩

/-- The register statements under `dma.active = false`, the APU on and off. -/
theorem witness_registers :
    State.reset.dma.active = false ∧ State.reset.apu.powered = true ∧ (busWrite 0xFF26 0x00 State.reset).apu.powered = false ∧
      (busWrite 0xFF26 0x00 State.reset).dma.active = false := by decide

/-- DmaCopiesOamIn648Cycles. -/
theorem witness_dma : GateOpen 0xFF46 State.reset ∧ GateOpen 0xFF46 { State.reset with dma := Dma.start 0x80 } := by
  simp only [GateOpen]; decide

/-- The framebuffer of the reset state has 144 rows of 160. -/
theorem reset_framebuffer : State.reset.framebuffer.length = 144 ∧ ∀ row ∈ State.reset.framebuffer, row.length = 160 := by
  refine ⟨List.length_replicate, fun row h => ?_⟩
  rw [List.eq_of_mem_replicate h]
  exact List.length_replicate

/-- The PPU statements and its invariant: the reset state, and the state with the display switched off. -/
theorem ppuOk_reset : PpuOk State.reset :=
  ⟨by decide, by decide, by decide, by decide, by decide, reset_framebuffer.1, reset_framebuffer.2⟩

theorem ppuOk_off : PpuOk (busWrite 0xFF40 0x11 State.reset) :=
  ⟨by decide, by decide, by decide, by decide, by decide, reset_framebuffer.1, reset_framebuffer.2⟩

theorem witness_display :
    State.reset.ppu.displayOn = true ∧ (busWrite 0xFF40 0x11 State.reset).ppu.displayOn = false ∧ State.reset.ppu.lcdc.getLsbD 7 = true ∧
      (0x11 : Byte).getLsbD 7 = false ∧ (0x91 : Byte).getLsbD 7 = true := by decide

/-- MapperWritesAndExternalRam: an address below 0x8000 for each part, and external RAM disabled, of MBC2, past its size, inside it. -/
theorem witness_mapper :
    let s := State.resetWith (cartOf .mbc1 32768 2048) InitMem.blank
    let t := busWrite 0x0000 0x0A s
    (0x7FFF : Word16).toNat < 0x8000 ∧ s.mapper.extRamEnabled = false ∧ t.mapper.extRamEnabled = true ∧ t.cart.kind ≠ .mbc2 ∧
      t.cart.extRamSize ≤ t.mapper.extRamBank.toNat * 0x2000 + (0xA800 : Word16).toNat % 0x2000 ∧
      t.mapper.extRamBank.toNat * 0x2000 + (0xA7FF : Word16).toNat % 0x2000 < t.cart.extRamSize ∧ t.dma.active = false := by decide

/-- An image of a size with the three header codes of R151 to R153 and zeros elsewhere. -/
def headerImage (size : Nat) (typeCode romCode ramCode : Byte) : List Byte :=
  List.replicate 0x147 0x00 ++ [typeCode, romCode, ramCode] ++ List.replicate (size - 0x14A) 0x00

theorem headerImage_length {size : Nat} (t r m : Byte) (h : 0x14A ≤ size) : (headerImage size t r m).length = size := by
  simp only [headerImage, List.length_append, List.length_replicate, List.length_cons, List.length_nil]
  omega

theorem headerImage_codes (size : Nat) (t r m : Byte) :
    (headerImage size t r m).getD 0x147 0 = t ∧ (headerImage size t r m).getD 0x148 0 = r ∧ (headerImage size t r m).getD 0x149 0 = m := by
  have code : ∀ k < 3, (headerImage size t r m).getD (0x147 + k) 0 = [t, r, m].getD k 0 := by
    intro k hk
    rw [headerImage, List.append_assoc, List.getD_append_right _ _ _ _ (by simp), List.length_replicate, Nat.add_sub_cancel_left,
      List.getD_append _ _ _ _ (by simpa using hk)]
  exact ⟨code 0 (by decide), code 1 (by decide), code 2 (by decide)⟩

/-- CreationRefusesBadImages: an image for each check that fails, at the edges of the codes of R151 to R153. -/
theorem witness_creation :
    (headerImage 32767 0x00 0x00 0x00).length < 32768 ∧ (headerImage 40960 0x00 0x00 0x00).length % 16384 ≠ 0 ∧
      (∀ c ∈ [(0x04 : Byte), 0x07, 0x0A, 0x0E, 0x14, 0x19, 0xFF],
        ∀ r ∈ typeRows, r.code ≠ ((headerImage 32768 c 0x00 0x00).getD 0x147 0).toNat) ∧
      ((headerImage 32768 0x00 0x09 0x00).getD 0x148 0).toNat > 8 ∧
      32768 * 2 ^ ((headerImage 32768 0x00 0x01 0x00).getD 0x148 0).toNat ≠ (headerImage 32768 0x00 0x01 0x00).length ∧
      (∃ r ∈ typeRows, r.code = ((headerImage 32768 0x03 0x00 0x06).getD 0x147 0).toNat ∧ r.ram = true ∧
        5 < ((headerImage 32768 0x03 0x00 0x06).getD 0x149 0).toNat) := by
  simp only [headerImage_length _ _ _ (show 0x14A ≤ 32767 by decide), headerImage_length _ _ _ (show 0x14A ≤ 40960 by decide),
    headerImage_length _ _ _ (show 0x14A ≤ 32768 by decide), headerImage_codes]
  decide

/-- CreationRefusesBadImages: an accepted image for each row of R151, with the largest RAM code of R153, and a save of the RAM's size. -/
theorem witness_accepted :
    (∀ r ∈ typeRows, let image := headerImage 32768 (BitVec.ofNat 8 r.code) 0x00 0x05
      let size := if r.kind = .mbc2 then 512 else if r.ram then 65536 else 0
      r.code = (image.getD 0x147 0).toNat ∧ (image.getD 0x148 0).toNat ≤ 8 ∧ 32768 * 2 ^ (image.getD 0x148 0).toNat = image.length ∧
        (r.kind = .mbc2 → size = 512) ∧ (r.kind ≠ .mbc2 → r.ram = false → size = 0) ∧
        (r.ram = true → ((image.getD 0x149 0).toNat, size) ∈ ramSizes)) ∧
      (∃ r ∈ typeRows, r.battery = true) ∧ (List.replicate 65536 (0x00 : Byte)).length = 65536 := by
  refine ⟨?_, by decide, List.length_replicate⟩
  simp only [headerImage_length _ _ _ (show 0x14A ≤ 32768 by decide), headerImage_codes]
  decide

/-- CreationRefusesBadImages: a created machine. -/
theorem witness_created : ∃ s, create (headerImage 32768 0x00 0x00 0x00) InitMem.blank none = .ok s := by
  refine ⟨State.resetWith ⟨Memory.ofBytes (headerImage 32768 0x00 0x00 0x00), 32768, .mbc0, 0, false⟩ InitMem.blank, ?_⟩
  unfold create Cartridge.ofImage
  simp only [headerImage_length _ _ _ (show 0x14A ≤ 32768 by decide), headerImage_codes]
  rfl

/-- RunUntilEventReturnsAtTheFirstEvent: one NOP from reset makes two sample pairs. -/
theorem witness_run : ∃ t, runUntilEvent 1 2 State.reset = .returned t := ⟨_, rfl⟩

/-- The invariants of every step: the reset state meets them all, and a step of it answers a next state. -/
theorem cpuOk_reset : CpuOk State.reset.cpu := ⟨by decide, rfl, rfl⟩
theorem fitsIn_nil (n : Nat) : FitsIn [] n := ⟨⟨by simp, by simp⟩, by simp [Memory.below]⟩
theorem memoriesOk_reset : MemoriesOk State.reset :=
  ⟨fitsIn_nil _, fitsIn_nil _, fitsIn_nil _, fitsIn_nil _, fitsIn_nil _, fitsIn_nil _, fitsIn_nil _⟩
theorem cartOk_reset : CartOk State.reset.cart := ⟨by decide, by decide, by decide⟩
theorem dmaOk_reset : DmaOk State.reset.dma := ⟨by decide, by decide, by decide⟩
theorem apuOk_reset : ApuOk State.reset.apu := by constructor <;> simp [statusOk, counterOk, State.reset, State.resetWith]
theorem mapperOk_reset : MapperOk State.reset.cart.kind State.reset.mapper := ⟨rfl, rfl⟩
theorem witness_next : ∃ t, step State.reset = .next t := ⟨_, rfl⟩

/-- The mapper invariant of MBC1 and of MBC3. -/
theorem witness_mapperOk :
    MapperOk .mbc1 (Mapper.mbc1Recompute State.reset.mapper) ∧ MapperOk .mbc3 State.reset.mapper := ⟨rfl, by simp only [MapperOk]; decide⟩

/-- A run that is safe in the sense of `SafeFor`: two steps from reset. -/
theorem safe_reset : SafeFor 2 State.reset := ⟨_, rfl⟩

end Sys2Proof.Machine.Tests
end

section
/-! PROOF. The CPU between and inside steps: F's low bits, the EI latch and halt_DI (R32, R39, R401, R404, R440). -/

namespace Sys2Proof.Machine

/-- What holds of the CPU inside a step, before the EI rule of R404 has run: a latched EI counts as IME (R401). -/
structure CpuMid (c : Cpu) : Prop where
  flagsLow : c.f &&& 0x0F = 0
  haltDI : c.haltDI = (c.halt && !(c.ime || c.eiPending))

/-- Between steps the same holds, with no latch left. -/
theorem cpuOk_iff {c : Cpu} : CpuOk c ↔ CpuMid c ∧ c.eiPending = false := by
  constructor
  · rintro ⟨hf, he, hd⟩
    exact ⟨⟨hf, by simpa [he] using hd⟩, he⟩
  · rintro ⟨⟨hf, hd⟩, he⟩
    exact ⟨hf, he, by simpa [he] using hd⟩

/-- The EI rule turns what holds inside a step into what holds between steps. -/
theorem CpuMid.settleEi {s : State} (h : CpuMid s.cpu) : CpuOk (settleEi s).cpu := by
  unfold Machine.settleEi
  split
  next he => exact ⟨h.flagsLow, rfl, by simpa [he] using h.haltDI⟩
  next he => exact cpuOk_iff.mpr ⟨h, by simpa using he⟩

theorem Plain.eiPending {s t : State} (h : Plain s t) : t.cpu.eiPending = s.cpu.eiPending := congrArg Hidden.eiPending h.hidden

theorem Plain.cpuMid {s t : State} (h : Plain s t) (hs : CpuMid s.cpu) : CpuMid t.cpu := by
  have hh := h.hidden
  simp only [Cpu.hidden, Hidden.mk.injEq] at hh
  obtain ⟨hi, -, he, hl, hd, -⟩ := hh
  exact ⟨h.flagsLow hs.flagsLow, by rw [hd, hl, hi, he, hs.haltDI]⟩

theorem Plain.cpuOk {s t : State} (h : Plain s t) (hs : CpuOk s.cpu) : CpuOk t.cpu :=
  cpuOk_iff.mpr ⟨h.cpuMid (cpuOk_iff.mp hs).1, h.eiPending.trans hs.noLatch⟩

/-- The five instructions that write the CPU's hidden state. -/
theorem Instr.controls_cases {i : Instr} (h : Instr.controls i = true) :
    i = .halt ∨ (∃ x, i = .stop x) ∨ i = .di ∨ i = .ei ∨ i = .reti := by
  unfold Instr.controls at h
  split at h <;> simp_all

theorem opHalt_cpuMid {s : State} (hs : CpuMid s.cpu) : CpuMid (opHalt s).cpu := by
  unfold opHalt
  split
  next hi => exact ⟨hs.flagsLow, by simp [hi]⟩
  next hi =>
    split
    · exact ⟨hs.flagsLow, hs.haltDI⟩
    · exact ⟨hs.flagsLow, by simp [hi]⟩

/-- An instruction keeps what holds inside a step; it starts on a CPU that is not halted. -/
theorem exec_cpuMid {i : Instr} {s t : State} (hs : CpuMid s.cpu) (hh : s.cpu.halt = false) (h : exec i s = .next t) :
    CpuMid t.cpu := by
  have hd : ∀ b, s.cpu.haltDI = (s.cpu.halt && b) := fun b => by simpa [hh] using hs.haltDI
  cases hi : Instr.controls i
  case false => exact (exec_plain i s t hi h).cpuMid hs
  case true =>
    obtain rfl | ⟨x, rfl⟩ | rfl | rfl | rfl := Instr.controls_cases hi <;> cases h
    · exact opHalt_cpuMid hs
    · exact ⟨hs.flagsLow, hs.haltDI⟩
    · exact ⟨hs.flagsLow, hd _⟩
    · exact ⟨hs.flagsLow, hs.haltDI⟩
    · exact ⟨hs.flagsLow, hd _⟩

/-- The fetch takes over the EI latch; a CPU that runs is not halted. -/
theorem afterFetch_cpuMid {s : State} (h : CpuOk s.cpu) (hh : s.cpu.halt = false) : CpuMid (afterFetch s).cpu :=
  ⟨h.flagsLow, by simpa [afterFetch, hh] using h.haltDI⟩

/-- Taking an interrupt leaves neither HALT nor halt_DI (R440). -/
theorem takeInterrupt_cpuOk (k : Nat) {s : State} (h : CpuOk s.cpu) : CpuOk (takeInterrupt k s).cpu :=
  (opCall_plain (vector k) (acknowledge k s)).cpuOk ⟨h.flagsLow, h.noLatch, rfl⟩

theorem interruptCheck_cpuOk {s : State} (h : CpuOk s.cpu) : CpuOk (interruptCheck s).cpu := by
  unfold interruptCheck
  split
  · exact h
  · split
    · exact h
    · split
      · rw [updateCycles_cpu]; exact takeInterrupt_cpuOk _ h
      · split
        · exact ⟨h.flagsLow, h.noLatch, rfl⟩
        · exact h

/-- Settles O53: inside a step a latched EI counts as IME, and the EI rule ends that. -/
theorem everyStepKeepsTheCpuInvariant : Obligations.EveryStepKeepsTheCpuInvariant := by
  intro s t h hstep
  obtain ⟨-, ⟨-, rfl⟩ | ⟨-, -, rfl⟩ | ⟨-, hh, u, hu, rfl⟩⟩ := step_cases hstep
  · rwa [updateCycles_cpu]
  · exact interruptCheck_cpuOk (by rwa [updateCycles_cpu])
  · have hm : CpuMid u.cpu := exec_cpuMid (afterFetch_cpuMid h hh) hh hu
    exact interruptCheck_cpuOk (by rw [updateCycles_cpu]; exact hm.settleEi)

end Sys2Proof.Machine
end

section
/-! PROOF. What one bus write can do to the devices' records and to the memories; every step keeps the memories (R67, R78, R79, R89,
R132, R502, R640). -/

namespace Sys2Proof.Machine

/-! ### The device records -/

/-- The one register write that changes the PPU's record by more than its own field is LCDC's; it leaves the APU alone. -/
@[simp] theorem writeLcdc_apu (v : Byte) (s : State) : (writeLcdc v s).apu = s.apu := by
  obtain ⟨p, k, h⟩ := writeLcdc_frame v s
  rw [h]

/-- A bus write changes the PPU's and the APU's records as a register write or as a wave RAM write does, or not at all. -/
theorem busWrite_devices (a : Word16) (v : Byte) (s : State) :
    ((busWrite a v s).ppu = s.ppu ∧ (busWrite a v s).apu = s.apu) ∨ (∃ r, busWrite a v s = writeIo r v s) ∨
      ∃ k < 16, busWrite a v s = { s with apu.ch3 := s.apu.ch3.writeRam s.cycles k v } := by
  unfold busWrite
  split
  · cases hr : region a <;> simp only [regionWrite, hr]
    case io | apu =>
      unfold deviceWrite
      split
      next r _ => exact .inr (.inl ⟨r, rfl⟩)
      · exact .inl ⟨rfl, rfl⟩
    case wave =>
      have := range_of_region hr
      dsimp only [Region.Range] at this
      exact .inr (.inr ⟨a.toNat - 0xFF30, by omega, rfl⟩)
    case eram =>
      unfold eramWrite
      left
      repeat' split
      all_goals exact ⟨rfl, rfl⟩
    case vram | oam => left; split <;> exact ⟨rfl, rfl⟩
    all_goals simp
  · exact .inl ⟨rfl, rfl⟩

/-- A register write changes the APU's record through its own registers and NR52 only. -/
theorem writeIo_apu (r : IoReg) (v : Byte) (s : State) :
    (writeIo r v s).apu = s.apu ∨ (∃ q, (writeIo r v s).apu = s.apu.write q v s.cycles) ∨
      (writeIo r v s).apu = s.apu.writeNr52 v s.cycles := by
  cases r
  case sound q => exact .inr (.inl ⟨q, rfl⟩)
  case nr52 => exact .inr (.inr rfl)
  case lcdc => exact .inl (writeLcdc_apu v s)
  all_goals exact .inl rfl

/-- What the APU's register writes, NR52's and those of wave RAM keep of its record, a bus write keeps. -/
theorem busWrite_keeps_apu {P : Apu → Prop} (reg : ∀ q v c p, P p → P (p.write q v c)) (nr52 : ∀ v c p, P p → P (p.writeNr52 v c))
    (wave : ∀ c, ∀ k < 16, ∀ v p, P p → P { p with ch3 := p.ch3.writeRam c k v }) (a : Word16) (v : Byte) {s : State}
    (h : P s.apu) : P (busWrite a v s).apu := by
  obtain ⟨-, he⟩ | ⟨r, he⟩ | ⟨k, hk, he⟩ := busWrite_devices a v s
  · rwa [he]
  · rw [he]
    obtain hr | ⟨q, hr⟩ | hr := writeIo_apu r v s <;> rw [hr]
    · exact h
    · exact reg _ _ _ _ h
    · exact nr52 _ _ _ h
  · rw [he]
    exact wave _ k hk _ _ h

/-- Advancing the devices changes the APU's record by ticks only. -/
theorem updateCycles_keeps_apu {P : Apu → Prop} (tick : ∀ t p, P p → P (Apu.tick t p)) (n : Nat) {s : State} (h : P s.apu) :
    P (updateCycles n s).apu := by
  refine apuTicks_keeps tick (n / 2) _ ?_
  obtain ⟨d, m, h1⟩ := dmaUpdate_frame n s
  obtain ⟨p, fb, k, h2⟩ := ppuUpdate_frame n (dmaUpdate n s)
  obtain ⟨tm, k', h3⟩ := timerUpdate_frame n (ppuUpdate n (dmaUpdate n s))
  rwa [h3, h2, h1]

/-- What the APU's writes and ticks keep of its record, a step keeps. -/
theorem step_keeps_apu {P : Apu → Prop} (reg : ∀ q v c p, P p → P (p.write q v c)) (nr52 : ∀ v c p, P p → P (p.writeNr52 v c))
    (wave : ∀ c, ∀ k < 16, ∀ v p, P p → P { p with ch3 := p.ch3.writeRam c k v }) (tick : ∀ t p, P p → P (Apu.tick t p))
    {s t : State} (h : P s.apu) (hs : step s = .next t) : P t.apu :=
  step_keeps (P := fun s => P s.apu) (fun _ _ h => h) (fun a v _ => busWrite_keeps_apu reg nr52 wave a v) (fun _ _ h => h)
    (fun n _ => updateCycles_keeps_apu tick n) h hs

/-! ### Wave RAM -/

theorem FitsIn.write {m : Memory} {n k : Nat} (h : FitsIn m n) (hk : k < n) (v : Byte) : FitsIn (m.write k v) n :=
  ⟨Memory.wf_write k v h.canonical, Memory.below_write k v hk h.bounded⟩

/-- The APU's wave RAM is canonical and has 16 bytes (R67). -/
def WaveRamOk (p : Apu) : Prop := FitsIn p.ch3.ram 16

theorem copyWaveBlock_fits (base : Nat) {m : Memory} (h : FitsIn m 16) : FitsIn (copyWaveBlock base m) 16 :=
  (((h.write (by decide) _).write (by decide) _).write (by decide) _).write (by decide) _

theorem Wave.corrupt_fits (c : Nat) {ch : Wave} (h : FitsIn ch.ram 16) : FitsIn (ch.corrupt c).ram 16 := by
  unfold Wave.corrupt
  split
  · split
    · exact h
    · dsimp only
      split
      · exact h.write (by decide) _
      · exact copyWaveBlock_fits _ h
  · exact h

theorem writeRam_waveRamOk (c k : Nat) (hk : k < 16) (v : Byte) (p : Apu) (h : WaveRamOk p) :
    WaveRamOk { p with ch3 := p.ch3.writeRam c k v } := by
  show FitsIn (p.ch3.writeRam c k v).ram 16
  unfold Wave.writeRam
  split
  · split
    · exact FitsIn.write h (by have := p.ch3.position.isLt; omega) v
    · exact h
  · exact FitsIn.write h hk v

/-- Of the register writes only the trigger of ch3 touches wave RAM (R613). -/
theorem writeOn_waveRamOk (q : ApuReg) (v : Byte) (c : Nat) (p : Apu) (h : WaveRamOk p) : WaveRamOk (p.writeOn q v c) := by
  cases q
  case nr34 =>
    show WaveRamOk (p.writeNr34 v c)
    unfold Apu.writeNr34
    dsimp only
    split
    · exact Wave.corrupt_fits c (ch := p.ch3.writeControl p.nextIsLength v) h
    · exact h
  case nr10 | nr14 | nr24 | nr44 =>
    simp only [Apu.writeOn, Apu.writeNr10, Apu.writeNr14, Apu.writeNr24, Apu.writeNr44, Apu.sweepTrigger, Apu.sweepCalc]
    repeat' split
    all_goals exact h
  all_goals exact h

theorem write_waveRamOk (q : ApuReg) (v : Byte) (c : Nat) (p : Apu) (h : WaveRamOk p) : WaveRamOk (p.write q v c) := by
  unfold Apu.write
  split
  · exact writeOn_waveRamOk q v c p h
  · cases q <;> exact h

theorem writeNr52_waveRamOk (v : Byte) (c : Nat) (p : Apu) (h : WaveRamOk p) : WaveRamOk (p.writeNr52 v c) := by
  unfold Apu.writeNr52
  split
  · exact List.foldlRecOn (motive := WaveRamOk) ApuReg.all _ h fun q hq r _ => writeOn_waveRamOk r _ c q hq
  · split <;> exact h

/-- The sweep unit changes ch1 and itself only. -/
@[simp] theorem sweepCalc_ch3 (p : Apu) : p.sweepCalc.ch3 = p.ch3 := rfl

@[simp] theorem sweepClock_ch3 (p : Apu) : p.sweepClock.ch3 = p.ch3 := by
  unfold Apu.sweepClock Apu.sweepUpdate
  dsimp only
  repeat' split
  all_goals rfl

theorem frameSequencerStep_waveRam (p : Apu) : p.frameSequencerStep.ch3.ram = p.ch3.ram := by
  unfold Apu.frameSequencerStep
  split
  case h_3 | h_7 => rw [sweepClock_ch3]; rfl
  all_goals rfl

theorem Wave.clock_ram (t : Nat) (ch : Wave) : (ch.clock t).ram = ch.ram := by
  unfold Wave.clock Wave.record
  dsimp only
  repeat' split
  all_goals rfl

theorem tick_waveRamOk (t : Nat) (p : Apu) (h : WaveRamOk p) : WaveRamOk (p.tick t) := by
  have hs : p.sequencerTick.ch3.ram = p.ch3.ram := by
    unfold Apu.sequencerTick
    split
    · exact frameSequencerStep_waveRam _
    · rfl
  unfold Apu.tick
  split
  · show FitsIn (if p.sequencerTick.ch3.status then p.sequencerTick.ch3.clock t else p.sequencerTick.ch3).ram 16
    split
    · rw [Wave.clock_ram, hs]; exact h
    · rw [hs]; exact h
  · exact h

/-! ### All memories -/

/-- An external RAM write lands inside the RAM (R132, R133, R141). -/
theorem eramWrite_fits (a : Word16) (v : Byte) {s : State} (hc : CartOk s.cart) (h : FitsIn s.eram s.cart.extRamSize) :
    ∃ m, eramWrite a v s = { s with eram := m } ∧ FitsIn m s.cart.extRamSize := by
  unfold eramWrite
  split
  · exact ⟨s.eram, rfl, h⟩
  · split
    next hk =>
      refine ⟨_, rfl, h.write ?_ _⟩
      rw [hc.mbc2Size hk, eramIndex, hk]
      exact Nat.mod_lt _ (by decide)
    · split
      · exact ⟨s.eram, rfl, h⟩
      next hk => exact ⟨_, rfl, h.write (Nat.lt_of_not_le hk) v⟩

theorem busWrite_memoriesOk (a : Word16) (v : Byte) {s : State} (hc : CartOk s.cart) (h : MemoriesOk s) :
    MemoriesOk (busWrite a v s) := by
  have hw : WaveRamOk (busWrite a v s).apu :=
    busWrite_keeps_apu write_waveRamOk writeNr52_waveRamOk writeRam_waveRamOk a v h.waveRam
  unfold busWrite at hw ⊢
  split at hw
  next hg =>
    rw [if_pos hg]
    cases hr : region a <;> simp only [regionWrite, hr] at hw ⊢ <;>
      have hk := range_of_region hr <;> dsimp only [Region.Range] at hk
    case rom0 | romN | unused => exact { h with }
    case vram =>
      split
      · exact h
      · exact { h with vram := h.vram.write (by omega) v }
    case oam =>
      split
      · exact h
      · exact { h with oam := h.oam.write (by omega) v }
    case eram =>
      obtain ⟨m, he, hm⟩ := eramWrite_fits a v hc h.eram
      rw [he]
      exact { h with eram := hm }
    case wram0 | wramN | echo => exact { h with wram := h.wram.write (by omega) v }
    case hram => exact { h with hram := h.hram.write (by omega) v }
    case wave => exact { h with waveRam := hw }
    case io | apu =>
      obtain ⟨tm, sr, se, d, p, m, ie, k, he⟩ := deviceWrite_frame a v s
      rw [he] at hw ⊢
      exact { h with waveRam := hw }
  next hg => rwa [if_neg hg]

/-- A DMA byte lands inside OAM (R502). -/
theorem dmaCycle_memoriesOk {s : State} (h : MemoriesOk s) : MemoriesOk (dmaCycle s) := by
  unfold dmaCycle dmaCopy
  dsimp only
  split
  next hk => split <;> exact { h with oam := h.oam.write hk.2 _ }
  · split <;> exact { h with }

theorem updateCycles_memoriesOk (n : Nat) {s : State} (h : MemoriesOk s) : MemoriesOk (updateCycles n s) := by
  have hw : WaveRamOk (updateCycles n s).apu := updateCycles_keeps_apu tick_waveRamOk n h.waveRam
  have hd : MemoriesOk (dmaUpdate n s) := dmaUpdate_keeps (fun _ h _ => dmaCycle_memoriesOk h) n h
  unfold updateCycles at hw ⊢
  obtain ⟨p, fb, k, h2⟩ := ppuUpdate_frame n (dmaUpdate n s)
  rw [h2] at hw ⊢
  obtain ⟨tm, k', h3⟩ := timerUpdate_frame n { dmaUpdate n s with ppu := p, framebuffer := fb, iflag := k }
  rw [h3] at hw ⊢
  obtain ⟨m, x, h4⟩ := apuUpdate_frame n { dmaUpdate n s with ppu := p, framebuffer := fb, timer := tm, iflag := k' }
  rw [h4] at hw ⊢
  exact { hd with waveRam := hw }

/-- Settles O54: every write and every DMA byte lands inside its memory. -/
theorem everyStepKeepsTheMemories : Obligations.EveryStepKeepsTheMemories := by
  intro s t h hc hstep
  have key : MemoriesOk t ∧ CartOk t.cart ∧ t.cart = s.cart :=
    step_keeps (P := fun u => MemoriesOk u ∧ CartOk u.cart ∧ u.cart = s.cart)
      (fun _ _ ⟨hm, hk⟩ => ⟨{ hm with }, hk⟩)
      (fun a v _ ⟨hm, hk⟩ => ⟨busWrite_memoriesOk a v hk.1 hm, by rwa [busWrite_cart]⟩)
      (fun _ _ ⟨hm, hk⟩ => ⟨{ hm with }, hk⟩)
      (fun n _ ⟨hm, hk⟩ => ⟨updateCycles_memoriesOk n hm, by rwa [updateCycles_cart]⟩) ⟨h, hc, rfl⟩ hstep
  exact ⟨key.1, key.2.2⟩

end Sys2Proof.Machine
end

section
/-! PROOF. Every step keeps the PPU's place in the frame, its mode and the framebuffer's size (R71, R90, R535, R550). -/

namespace Sys2Proof.Machine

/-! ### The mode of a line and a cycle (R550) -/

theorem modeAt_eq_vBlank {ly c : Nat} : modeAt ly c = .vBlank ↔ 144 ≤ ly := by
  unfold modeAt; repeat' split
  all_goals simp_all

theorem modeAt_eq_oamScan {ly c : Nat} : modeAt ly c = .oamScan ↔ ly < 144 ∧ c < 80 := by
  unfold modeAt; repeat' split
  all_goals simp_all

theorem modeAt_eq_transfer {ly c : Nat} : modeAt ly c = .transfer ↔ ly < 144 ∧ 80 ≤ c ∧ c < 252 := by
  unfold modeAt; repeat' split
  all_goals simp_all

theorem modeAt_eq_hBlank {ly c : Nat} : modeAt ly c = .hBlank ↔ ly < 144 ∧ 252 ≤ c := by
  unfold modeAt; repeat' split
  all_goals simp_all
  all_goals omega

/-! ### The framebuffer -/

/-- 144 rows of 160 entries (R90). -/
def FramebufferOk (fb : List (List Rgba)) : Prop := fb.length = 144 ∧ ∀ row ∈ fb, row.length = 160

theorem FramebufferOk.set {fb : List (List Rgba)} (h : FramebufferOk fb) (y : Nat) {row : List Rgba} (hr : row.length = 160) :
    FramebufferOk (fb.set y row) := by
  refine ⟨by rw [List.length_set, h.1], fun r hm => ?_⟩
  obtain hm | rfl := List.mem_or_eq_of_mem_set hm
  · exact h.2 r hm
  · exact hr

theorem Ppu.length_drawColumn (p : Ppu) (vram oam : Memory) (bg : List BgPixel) (y i : Nat) (row : List Rgba) (c : Nat) :
    (p.drawColumn vram oam bg y i row c).length = row.length := by
  unfold Ppu.drawColumn
  dsimp only
  repeat' split
  all_goals first | rfl | exact List.length_set

/-- A fold whose every step keeps a list's length keeps it. -/
theorem length_foldl_of_keeps {α β : Type} (f : List α → β → List α) (h : ∀ row b, (f row b).length = row.length) (l : List β)
    (row : List α) : (l.foldl f row).length = row.length :=
  List.foldlRecOn (motive := fun r => r.length = row.length) l f rfl fun r hr b _ => (h r b).trans hr

theorem Ppu.length_drawObject (p : Ppu) (vram oam : Memory) (bg : List BgPixel) (y : Nat) (row : List Rgba) (i : Nat) :
    (p.drawObject vram oam bg y row i).length = row.length :=
  length_foldl_of_keeps _ (p.length_drawColumn vram oam bg y i) _ row

/-- A rendered line has 160 entries (R540). -/
theorem Ppu.length_renderedRow (p : Ppu) (vram oam : Memory) (y : Nat) : (p.renderedRow vram oam y).length = 160 := by
  have hbg : ((p.bgRow vram y).map (·.colour)).length = 160 := by simp [Ppu.bgRow]
  unfold Ppu.renderedRow
  dsimp only
  split
  · rw [length_foldl_of_keeps _ (p.length_drawObject vram oam _ y), hbg]
  · exact hbg

/-! ### One cycle -/

theorem PpuOk.framebuffer {s : State} (h : PpuOk s) : FramebufferOk s.framebuffer := ⟨h.rows, h.columns⟩

/-- With the display on the invariant is the place in the frame, its mode and the framebuffer. -/
theorem PpuOk.ofOn {s : State} (hd : s.ppu.displayOn = true) (hc : s.ppu.lineCycle < 456) (hy : s.ppu.ly.toNat < 154)
    (hf : s.ppu.fakeLy < 154) (hm : s.ppu.mode = modeAt s.ppu.ly.toNat s.ppu.lineCycle) (hb : FramebufferOk s.framebuffer) :
    PpuOk s :=
  ⟨hc, hy, hf, fun _ => hm, fun h => (Bool.noConfusion (hd.symm.trans h)), hb.1, hb.2⟩

/-- IF, the coincidence flag and the counters of windows and frames play no part in the invariant. -/
theorem PpuOk.congr {s t : State} (h : PpuOk s) (hl : t.ppu.lcdc = s.ppu.lcdc) (hc : t.ppu.lineCycle = s.ppu.lineCycle)
    (hy : t.ppu.ly = s.ppu.ly) (hf : t.ppu.fakeLy = s.ppu.fakeLy) (hm : t.ppu.mode = s.ppu.mode)
    (hb : t.framebuffer = s.framebuffer) : PpuOk t := by
  have hd : t.ppu.displayOn = s.ppu.displayOn := by simp only [Ppu.displayOn, hl]
  exact ⟨hc ▸ h.lineCycle, hy ▸ h.ly, hf ▸ h.fakeLy, by rw [hd, hm, hy, hc]; exact h.modeOn, by rw [hd, hm, hy]; exact h.modeOff,
    hb ▸ h.rows, hb ▸ h.columns⟩

theorem checkLyc_ppuOk {s : State} (h : PpuOk s) : PpuOk (checkLyc s) := by
  rw [checkLyc_eq]
  exact h.congr rfl rfl rfl rfl rfl rfl

theorem statIf_ppuOk (b : Bool) {s : State} (h : PpuOk s) : PpuOk (statIf b s) := by
  rw [statIf_eq]
  exact h.congr rfl rfl rfl rfl rfl rfl

theorem requestInterrupt_ppuOk (k : Nat) {s : State} (h : PpuOk s) : PpuOk (requestInterrupt k s) :=
  h.congr rfl rfl rfl rfl rfl rfl

/-- LY does not wrap inside a frame. -/
theorem toNat_succ_of_lt {ly : Byte} (h : ly.toNat < 154) : (ly + 1).toNat = ly.toNat + 1 := by bv_omega

/-- The end of a visible line: the next line, or the first of VBlank (R521). -/
theorem endVisibleLine_ppuOk {s : State} (hd : s.ppu.displayOn = true) (hy : s.ppu.ly.toNat < 144) (hf : s.ppu.fakeLy < 154)
    (hb : FramebufferOk s.framebuffer) : PpuOk (endVisibleLine s) := by
  have hs := toNat_succ_of_lt (ly := s.ppu.ly) (by omega)
  unfold endVisibleLine
  simp only [checkLyc_eq]
  split
  next he =>
    have ht : (s.ppu.ly + 1).toNat = 144 := congrArg BitVec.toNat he
    refine statIf_ppuOk _ (requestInterrupt_ppuOk _ (.ofOn hd (Nat.succ_pos _) ?_ hf (modeAt_eq_vBlank.mpr ?_).symm hb))
    · show (s.ppu.ly + 1).toNat < 154
      omega
    · exact ht.ge
  next he =>
    have ht : (s.ppu.ly + 1).toNat ≠ 144 := fun e => he (BitVec.eq_of_toNat_eq e)
    refine statIf_ppuOk _ (.ofOn hd (Nat.succ_pos _) ?_ hf (modeAt_eq_oamScan.mpr ⟨?_, Nat.succ_pos _⟩).symm hb)
    · show (s.ppu.ly + 1).toNat < 154
      omega
    · show (s.ppu.ly + 1).toNat < 144
      omega

/-- The end of a VBlank line: the next one, or line 0 of the next frame (R521). -/
theorem endVBlankLine_ppuOk {s : State} (hd : s.ppu.displayOn = true) (hm : s.ppu.mode = .vBlank) (hy : 144 ≤ s.ppu.ly.toNat)
    (hl : s.ppu.ly.toNat < 154) (hf : s.ppu.fakeLy < 154) (hb : FramebufferOk s.framebuffer) : PpuOk (endVBlankLine s) := by
  have hs := toNat_succ_of_lt hl
  unfold endVBlankLine
  split
  · exact checkLyc_ppuOk (statIf_ppuOk _ (.ofOn hd (Nat.succ_pos _) (Nat.succ_pos _) hf rfl hb))
  next he =>
    have ht : s.ppu.ly.toNat ≠ 153 := fun e => he (BitVec.eq_of_toNat_eq e)
    refine checkLyc_ppuOk (.ofOn hd (Nat.succ_pos _) ?_ hf (hm.trans (modeAt_eq_vBlank.mpr ?_).symm) hb)
    · show (s.ppu.ly + 1).toNat < 154
      omega
    · show 144 ≤ (s.ppu.ly + 1).toNat
      omega

theorem lcdOnCycle_ppuOk {s : State} (h : PpuOk s) (hd : s.ppu.displayOn = true) : PpuOk (lcdOnCycle s) := by
  have hm := h.modeOn hd
  have hc := h.lineCycle
  unfold lcdOnCycle
  dsimp only
  split
  next hs =>
    obtain ⟨hy, hlt⟩ := modeAt_eq_oamScan.mp (hm.symm.trans hs)
    split
    next he =>
      exact .ofOn hd (he.trans_lt (by decide)) h.ly h.fakeLy (modeAt_eq_transfer.mpr ⟨hy, he.ge, he.trans_lt (by decide)⟩).symm
        (h.framebuffer.set _ (Ppu.length_renderedRow _ _ _ _))
    next he =>
      have hn : s.ppu.lineCycle + 1 < 80 := by omega
      exact .ofOn hd (hn.trans (by decide)) h.ly h.fakeLy (hs.trans (modeAt_eq_oamScan.mpr ⟨hy, hn⟩).symm) h.framebuffer
  next hs =>
    obtain ⟨hy, hge, hlt⟩ := modeAt_eq_transfer.mp (hm.symm.trans hs)
    split
    next he =>
      exact statIf_ppuOk _ (.ofOn hd (he.trans_lt (by decide)) h.ly h.fakeLy (modeAt_eq_hBlank.mpr ⟨hy, he.ge⟩).symm h.framebuffer)
    next he =>
      have hn : s.ppu.lineCycle + 1 < 252 := by omega
      exact .ofOn hd (hn.trans (by decide)) h.ly h.fakeLy
        (hs.trans (modeAt_eq_transfer.mpr ⟨hy, hge.trans (Nat.le_succ _), hn⟩).symm) h.framebuffer
  next hs =>
    obtain ⟨hy, hge⟩ := modeAt_eq_hBlank.mp (hm.symm.trans hs)
    split
    · exact endVisibleLine_ppuOk hd hy h.fakeLy h.framebuffer
    next he =>
      exact .ofOn hd (Nat.lt_of_le_of_ne hc he) h.ly h.fakeLy
        (hs.trans (modeAt_eq_hBlank.mpr ⟨hy, hge.trans (Nat.le_succ _)⟩).symm) h.framebuffer
  next hs =>
    have hy := modeAt_eq_vBlank.mp (hm.symm.trans hs)
    split
    · exact endVBlankLine_ppuOk hd hs hy h.ly h.fakeLy h.framebuffer
    next he => exact .ofOn hd (Nat.lt_of_le_of_ne hc he) h.ly h.fakeLy (hs.trans (modeAt_eq_vBlank.mpr hy).symm) h.framebuffer

/-- With the display off only the invisible line moves, and white rows are drawn (R535). -/
theorem lcdOffCycle_ppuOk {s : State} (h : PpuOk s) (hd : s.ppu.displayOn = false) : PpuOk (lcdOffCycle s) := by
  have on : ¬s.ppu.displayOn = true := by simp [hd]
  have hb : FramebufferOk
      (if s.ppu.fakeLy < 144 then s.framebuffer.set s.ppu.fakeLy (List.replicate 160 Config.white) else s.framebuffer) := by
    split
    · exact h.framebuffer.set _ (List.length_replicate ..)
    · exact h.framebuffer
  have hf : (s.ppu.fakeLy + 1) % 154 < 154 := Nat.mod_lt _ (by decide)
  unfold lcdOffCycle endOffLine
  dsimp only
  split
  · split <;> exact ⟨Nat.succ_pos _, h.ly, hf, (absurd · on), fun _ => h.modeOff hd, hb.1, hb.2⟩
  next he =>
    exact ⟨Nat.lt_of_le_of_ne h.lineCycle he, h.ly, h.fakeLy, (absurd · on), fun _ => h.modeOff hd, h.rows, h.columns⟩

theorem ppuCycle_ppuOk {s : State} (h : PpuOk s) : PpuOk (ppuCycle s) := by
  unfold ppuCycle
  split
  next hd => exact lcdOnCycle_ppuOk h hd
  next hd => exact lcdOffCycle_ppuOk h (by simpa using hd)

/-! ### The other writers -/

/-- The display switch (R535). -/
theorem writeLcdc_ppuOk (v : Byte) {s : State} (h : PpuOk s) : PpuOk (writeLcdc v s) := by
  unfold writeLcdc
  dsimp only
  cases hv : v.getLsbD 7 <;> cases hd : s.ppu.displayOn
  case false.true =>
    exact ⟨Nat.succ_pos _, Nat.succ_pos _, Nat.succ_pos _, fun k => Bool.noConfusion (hv.symm.trans k), fun _ => ⟨rfl, rfl⟩,
      h.rows, h.columns⟩
  case true.false => exact checkLyc_ppuOk (.ofOn hv (Nat.succ_pos _) (Nat.succ_pos _) h.fakeLy rfl h.framebuffer)
  case true.true => exact .ofOn hv h.lineCycle h.ly h.fakeLy (h.modeOn hd) h.framebuffer
  case false.false =>
    exact ⟨h.lineCycle, h.ly, h.fakeLy, fun k => Bool.noConfusion (hv.symm.trans k), fun _ => h.modeOff hd, h.rows,
      h.columns⟩

theorem writeIo_ppuOk (r : IoReg) (v : Byte) {s : State} (h : PpuOk s) : PpuOk (writeIo r v s) := by
  cases r
  case lcdc => exact writeLcdc_ppuOk v h
  all_goals exact h.congr rfl rfl rfl rfl rfl rfl

theorem busWrite_ppuOk (a : Word16) (v : Byte) {s : State} (h : PpuOk s) : PpuOk (busWrite a v s) := by
  obtain ⟨hp, -⟩ | ⟨r, he⟩ | ⟨k, -, he⟩ := busWrite_devices a v s
  · exact h.congr (by rw [hp]) (by rw [hp]) (by rw [hp]) (by rw [hp]) (by rw [hp]) (busWrite_framebuffer a v s)
  · rw [he]
    exact writeIo_ppuOk r v h
  · rw [he]
    exact h.congr rfl rfl rfl rfl rfl rfl

theorem updateCycles_ppuOk (n : Nat) {s : State} (h : PpuOk s) : PpuOk (updateCycles n s) := by
  have hd : PpuOk (dmaUpdate n s) := by
    obtain ⟨d, m, he⟩ := dmaUpdate_frame n s
    rw [he]
    exact h.congr rfl rfl rfl rfl rfl rfl
  have hp := ppuUpdate_keeps (P := PpuOk) (fun _ => ppuCycle_ppuOk) n hd
  unfold updateCycles
  obtain ⟨tm, k, ht⟩ := timerUpdate_frame n (ppuUpdate n (dmaUpdate n s))
  rw [ht]
  obtain ⟨a, x, ha⟩ := apuUpdate_frame n { ppuUpdate n (dmaUpdate n s) with timer := tm, iflag := k }
  rw [ha]
  exact hp.congr rfl rfl rfl rfl rfl rfl

/-- Settles O55: each PPU cycle moves the line, the cycle and the mode together; only an LCDC write sets them otherwise. -/
theorem everyStepKeepsThePpuInvariant : Obligations.EveryStepKeepsThePpuInvariant := fun _ _ h hstep =>
  step_keeps (P := PpuOk) (fun _ _ h => h.congr rfl rfl rfl rfl rfl rfl) (fun a v _ => busWrite_ppuOk a v)
    (fun _ _ h => h.congr rfl rfl rfl rfl rfl rfl) (fun n _ => updateCycles_ppuOk n) h hstep

end Sys2Proof.Machine
end

section
/-! PROOF. Every step keeps the APU's invariant: status, lengths, running counters, sweep timer and frame sequencer (R80 to R85, R590,
R620, R650). -/

namespace Sys2Proof.Machine

/-! ### One channel -/

/-- What the APU's invariant says of one channel. -/
structure ChannelOk (max : Nat) (powered status dac : Bool) (length : Nat) (counter : Int) : Prop where
  needsDac : statusOk powered status dac
  inRange : length ≤ max
  running : counterOk status counter

/-- A value a running channel's counter can hold (R590). -/
def RunningCounter (c : Int) : Prop := 0 < c ∧ c % 2 = 0

section
variable {max length : Nat} {powered status dac : Bool} {counter : Int}

/-- A channel may fall silent at any time. -/
theorem ChannelOk.quieter (h : ChannelOk max powered status dac length counter) {status' : Bool}
    (hs : status' = true → status = true) : ChannelOk max powered status' dac length counter :=
  ⟨fun k => h.needsDac (hs k), h.inRange, fun k => h.running (hs k)⟩

theorem ChannelOk.setLength (h : ChannelOk max powered status dac length counter) {n : Nat} (hn : n ≤ max) :
    ChannelOk max powered status dac n counter :=
  ⟨h.needsDac, hn, h.running⟩

theorem ChannelOk.lengthClock (h : ChannelOk max powered status dac length counter) (enabled : Bool) :
    ChannelOk max powered (lengthClock enabled length status).2 dac (lengthClock enabled length status).1 counter := by
  unfold Machine.lengthClock
  split
  · exact (h.setLength ((Nat.sub_le _ _).trans h.inRange)).quieter (by split <;> simp)
  · exact h

theorem ChannelOk.extraLengthClock (h : ChannelOk max powered status dac length counter) (next was : Bool) (v : Byte) :
    ChannelOk max powered (extraLengthClock next was v length status).2 dac (extraLengthClock next was v length status).1
      counter := by
  unfold Machine.extraLengthClock
  split
  · exact (h.setLength ((Nat.sub_le _ _).trans h.inRange)).quieter (by split <;> simp)
  · exact h

/-- A DAC write silences the channel with its DAC (R605, R606). -/
theorem ChannelOk.setDac (h : ChannelOk max powered status dac length counter) (d : Bool) :
    ChannelOk max powered (status && d) d length counter := by
  cases d
  · rw [Bool.and_false]
    exact ⟨fun k => Bool.noConfusion k, h.inRange, fun k => Bool.noConfusion k⟩
  · rw [Bool.and_true]
    exact ⟨fun k => ⟨rfl, (h.needsDac k).2⟩, h.inRange, h.running⟩

theorem triggerLength_le (next enabled : Bool) (h : length ≤ max) : triggerLength max next enabled length ≤ max := by
  unfold triggerLength
  split
  · split
    · exact Nat.sub_le _ _
    · exact Nat.le_refl _
  · exact h

/-- A trigger starts a channel whose DAC is on, with a fresh counter (R611). -/
theorem ChannelOk.trigger (h : ChannelOk max powered status dac length counter) (hp : powered = true) {c : Int}
    (hc : RunningCounter c) (next enabled : Bool) :
    ChannelOk max powered (status || dac) dac (triggerLength max next enabled length) c := by
  refine ⟨fun k => ⟨?_, hp⟩, triggerLength_le next enabled h.inRange, fun _ => hc⟩
  cases dac
  · exact (h.needsDac (by simpa using k)).1
  · rfl

/-- A channel clock counts down by 2 to 0 exactly, then reloads (R590). -/
theorem ChannelOk.clock (h : ChannelOk max powered status dac length counter) (hs : status = true) {period : Int}
    (hp : RunningCounter period) :
    ChannelOk max powered status dac length (if counter - 2 = 0 then period else counter - 2) := by
  refine ⟨h.needsDac, h.inRange, fun _ => ?_⟩
  obtain ⟨hpos, heven⟩ := h.running hs
  split
  · exact hp
  · omega

end

/-! ### The periods (R593) -/

theorem Square.period_running (ch : Square) : RunningCounter ch.period := by
  have := ch.freq.isLt
  unfold RunningCounter Square.period
  omega

theorem Wave.period_running (ch : Wave) : RunningCounter ch.period := by
  have := ch.freq.isLt
  unfold RunningCounter Wave.period
  omega

theorem Noise.divisor_eq (ch : Noise) : ∃ k, 0 < k ∧ ch.divisor = 2 * k := by
  unfold Noise.divisor
  split
  · exact ⟨4, by decide, rfl⟩
  next h =>
    have hpos : 0 < ch.divisorCode.toNat := Nat.pos_of_ne_zero fun e => h (BitVec.eq_of_toNat_eq e)
    exact ⟨8 * ch.divisorCode.toNat, by omega, by omega⟩

theorem Noise.period_running (ch : Noise) : RunningCounter ch.period := by
  obtain ⟨k, hk, he⟩ := ch.divisor_eq
  have hp : ch.period = 2 * (k * 2 ^ ch.clockShift.toNat) := by
    unfold Noise.period
    rw [he]
    push_cast
    ring
  rw [hp]
  exact ⟨by positivity, Int.mul_emod_right _ _⟩

/-! ### The channels in the APU's record -/

def SquareOk (powered : Bool) (ch : Square) : Prop := ChannelOk 64 powered ch.status ch.dacEnabled ch.length ch.counter
def WaveOk (powered : Bool) (ch : Wave) : Prop := ChannelOk 256 powered ch.status ch.dacEnabled ch.length ch.counter
def NoiseOk (powered : Bool) (ch : Noise) : Prop := ChannelOk 64 powered ch.status ch.dacEnabled ch.length ch.counter

theorem ApuOk.ch1 {p : Apu} (h : ApuOk p) : SquareOk p.powered p.ch1 := ⟨h.status1, h.length1, h.counter1⟩
theorem ApuOk.ch2 {p : Apu} (h : ApuOk p) : SquareOk p.powered p.ch2 := ⟨h.status2, h.length2, h.counter2⟩
theorem ApuOk.ch3 {p : Apu} (h : ApuOk p) : WaveOk p.powered p.ch3 := ⟨h.status3, h.length3, h.counter3⟩
theorem ApuOk.ch4 {p : Apu} (h : ApuOk p) : NoiseOk p.powered p.ch4 := ⟨h.status4, h.length4, h.counter4⟩

theorem ApuOk.setCh1 {p : Apu} (h : ApuOk p) {ch : Square} (hc : SquareOk p.powered ch) : ApuOk { p with ch1 := ch } :=
  { h with status1 := hc.needsDac, length1 := hc.inRange, counter1 := hc.running }
theorem ApuOk.setCh2 {p : Apu} (h : ApuOk p) {ch : Square} (hc : SquareOk p.powered ch) : ApuOk { p with ch2 := ch } :=
  { h with status2 := hc.needsDac, length2 := hc.inRange, counter2 := hc.running }
theorem ApuOk.setCh3 {p : Apu} (h : ApuOk p) {ch : Wave} (hc : WaveOk p.powered ch) : ApuOk { p with ch3 := ch } :=
  { h with status3 := hc.needsDac, length3 := hc.inRange, counter3 := hc.running }
theorem ApuOk.setCh4 {p : Apu} (h : ApuOk p) {ch : Noise} (hc : NoiseOk p.powered ch) : ApuOk { p with ch4 := ch } :=
  { h with status4 := hc.needsDac, length4 := hc.inRange, counter4 := hc.running }

theorem ApuOk.setSweep {p : Apu} (h : ApuOk p) {w : Sweep} (hw : 0 < w.timer) : ApuOk { p with sweep := w } :=
  { h with sweepTimer := hw }

/-- The sweep unit writes ch1 and itself. -/
theorem ApuOk.setSweepCh1 {p : Apu} (h : ApuOk p) {w : Sweep} {ch : Square} (hw : 0 < w.timer) (hc : SquareOk p.powered ch) :
    ApuOk { p with sweep := w, ch1 := ch } :=
  (h.setSweep hw).setCh1 hc

/-! ### The sweep unit (R585, R612) -/

theorem Sweep.reload_pos (w : Sweep) : 0 < w.reload := by
  unfold Sweep.reload
  split
  next h => exact Int.natCast_pos.mpr (Nat.pos_of_ne_zero fun e => h (BitVec.eq_of_toNat_eq e))
  · decide

theorem ApuOk.sweepCalc {p : Apu} (h : ApuOk p) : ApuOk p.sweepCalc := by
  refine h.setSweepCh1 h.sweepTimer (h.ch1.quieter ?_)
  split <;> simp

theorem ApuOk.sweepUpdate {p : Apu} (h : ApuOk p) : ApuOk p.sweepUpdate := by
  unfold Apu.sweepUpdate
  dsimp only
  split
  · refine ApuOk.sweepCalc ?_
    exact { h.sweepCalc with }
  · exact h.sweepCalc

theorem ApuOk.sweepClock {p : Apu} (h : ApuOk p) : ApuOk p.sweepClock := by
  have hr : ApuOk { p with sweep.timer := p.sweep.reload } := h.setSweep p.sweep.reload_pos
  unfold Apu.sweepClock
  dsimp only
  split
  · split
    · split
      · exact hr.sweepUpdate
      · exact hr
    next hne => exact h.setSweep (by have := h.sweepTimer; dsimp only; omega)
  · exact h

theorem ApuOk.sweepTrigger {p : Apu} (h : ApuOk p) : ApuOk p.sweepTrigger := by
  unfold Apu.sweepTrigger
  dsimp only
  split
  · exact (h.setSweep p.sweep.reload_pos).sweepCalc
  · exact h.setSweep p.sweep.reload_pos

/-! ### A tick (R580 to R592) -/

theorem ApuOk.lengthClocks {p : Apu} (h : ApuOk p) : ApuOk p.lengthClocks :=
  (((h.setCh1 (ch := p.ch1.lengthClock) (h.ch1.lengthClock _)).setCh2 (ch := p.ch2.lengthClock) (h.ch2.lengthClock _)).setCh3
    (ch := p.ch3.lengthClock) (h.ch3.lengthClock _)).setCh4 (ch := p.ch4.lengthClock) (h.ch4.lengthClock _)

theorem ApuOk.frameSequencerStep {p : Apu} (h : ApuOk p) : ApuOk p.frameSequencerStep := by
  unfold Apu.frameSequencerStep
  split
  case h_1 | h_5 => exact h.lengthClocks
  case h_3 | h_7 => exact h.lengthClocks.sweepClock
  case h_8 => exact { h with }
  all_goals exact h

theorem ApuOk.sequencerTick {p : Apu} (h : ApuOk p) : ApuOk p.sequencerTick := by
  obtain ⟨hlt, heven⟩ := h.sequencer
  unfold Apu.sequencerTick
  split
  · exact ApuOk.frameSequencerStep { h with sequencer := ⟨Nat.succ_pos _, rfl⟩ }
  · exact { h with sequencer := ⟨by dsimp only; omega, by dsimp only; omega⟩ }

theorem SquareOk.clock {on : Bool} {ch : Square} (h : SquareOk on ch) (hs : ch.status = true) : SquareOk on ch.clock := by
  have hk := ChannelOk.clock h hs ch.period_running
  unfold Square.clock
  split at hk
  next he => rw [if_pos he]; exact hk
  next he => rw [if_neg he]; exact hk

theorem WaveOk.record {on : Bool} {ch : Wave} (h : WaveOk on ch) (e : WaveLogEntry) : WaveOk on (Wave.record e ch) := by
  unfold Wave.record
  split <;> exact h

theorem WaveOk.clock {on : Bool} {ch : Wave} (h : WaveOk on ch) (hs : ch.status = true) (t : Nat) : WaveOk on (ch.clock t) := by
  have hk := ChannelOk.clock h hs ch.period_running
  unfold Wave.clock
  split at hk
  next he => rw [if_pos he]; refine WaveOk.record ?_ _; exact hk
  next he => rw [if_neg he]; exact hk

theorem NoiseOk.clock {on : Bool} {ch : Noise} (h : NoiseOk on ch) (hs : ch.status = true) : NoiseOk on ch.clock := by
  have hk := ChannelOk.clock h hs ch.period_running
  unfold Noise.clock
  split at hk
  next he => rw [if_pos he]; exact hk
  next he => rw [if_neg he]; exact hk

/-- What a clock keeps of a channel, one that runs only under a condition keeps. -/
theorem ite_keeps {α : Type} {P : α → Prop} {c : Prop} [Decidable c] {x y : α} (hy : P y) (hx : c → P x) : P (if c then x else y) := by
  split
  next h => exact hx h
  · exact hy

theorem ApuOk.channelClocks {p : Apu} (h : ApuOk p) (t : Nat) : ApuOk (p.channelClocks t) :=
  (((h.setCh1 (ite_keeps (P := SquareOk p.powered) h.ch1 h.ch1.clock)).setCh2
    (ite_keeps (P := SquareOk p.powered) h.ch2 h.ch2.clock)).setCh3
      (ite_keeps (P := WaveOk p.powered) h.ch3 fun hs => h.ch3.clock hs t)).setCh4
        (ite_keeps (P := NoiseOk p.powered) h.ch4 h.ch4.clock)

theorem ApuOk.tick (t : Nat) {p : Apu} (h : ApuOk p) : ApuOk (p.tick t) := ite_keeps h fun _ => h.sequencerTick.channelClocks t

/-! ### Register writes (R600 to R615) -/

theorem Wave.corrupt_eq (c : Nat) (ch : Wave) : ∃ m, ch.corrupt c = { ch with ram := m } := by
  unfold Wave.corrupt
  split
  · split
    · exact ⟨ch.ram, rfl⟩
    · dsimp only
      split <;> exact ⟨_, rfl⟩
  · exact ⟨ch.ram, rfl⟩

theorem WaveOk.trigger {on : Bool} {ch : Wave} (h : WaveOk on ch) (hp : on = true) (next : Bool) (c : Nat) :
    WaveOk on (ch.trigger next c) := by
  obtain ⟨m, he⟩ := Wave.corrupt_eq c ch
  unfold Wave.trigger
  rw [he]
  exact ChannelOk.trigger h hp ch.period_running _ _

theorem ApuOk.writeNr10 {p : Apu} (h : ApuOk p) (v : Byte) : ApuOk (p.writeNr10 v) := by
  unfold Apu.writeNr10
  dsimp only
  split
  · exact h.setSweepCh1 h.sweepTimer (h.ch1.quieter (Bool.noConfusion ·))
  · exact { h with }

theorem ApuOk.writeNr14 {p : Apu} (h : ApuOk p) (hp : p.powered = true) (v : Byte) : ApuOk (p.writeNr14 v) := by
  have hw : ApuOk { p with ch1 := p.ch1.writeControl p.nextIsLength v } := h.setCh1 (h.ch1.extraLengthClock _ _ v)
  unfold Apu.writeNr14
  exact ite_keeps hw fun _ => ApuOk.sweepTrigger (hw.setCh1 (hw.ch1.trigger hp (Square.period_running _) _ _))

theorem ApuOk.writeNr24 {p : Apu} (h : ApuOk p) (hp : p.powered = true) (v : Byte) : ApuOk (p.writeNr24 v) := by
  have hw : ApuOk { p with ch2 := p.ch2.writeControl p.nextIsLength v } := h.setCh2 (h.ch2.extraLengthClock _ _ v)
  unfold Apu.writeNr24
  exact ite_keeps hw fun _ => hw.setCh2 (hw.ch2.trigger hp (Square.period_running _) _ _)

theorem ApuOk.writeNr34 {p : Apu} (h : ApuOk p) (hp : p.powered = true) (v : Byte) (c : Nat) : ApuOk (p.writeNr34 v c) := by
  have hw : ApuOk { p with ch3 := p.ch3.writeControl p.nextIsLength v } := h.setCh3 (h.ch3.extraLengthClock _ _ v)
  unfold Apu.writeNr34
  exact ite_keeps hw fun _ => hw.setCh3 (hw.ch3.trigger hp _ c)

theorem ApuOk.writeNr44 {p : Apu} (h : ApuOk p) (hp : p.powered = true) (v : Byte) : ApuOk (p.writeNr44 v) := by
  have hw : ApuOk { p with ch4 := p.ch4.writeControl p.nextIsLength v } := h.setCh4 (h.ch4.extraLengthClock _ _ v)
  unfold Apu.writeNr44
  exact ite_keeps hw fun _ => hw.setCh4 (hw.ch4.trigger hp (Noise.period_running _) _ _)

theorem ApuOk.writeOn {p : Apu} (h : ApuOk p) (hp : p.powered = true) (r : ApuReg) (v : Byte) (c : Nat) : ApuOk (p.writeOn r v c) := by
  cases r
  case nr10 => exact h.writeNr10 v
  case nr11 => exact h.setCh1 (h.ch1.setLength (Nat.sub_le _ _))
  case nr12 => exact h.setCh1 (h.ch1.setDac _)
  case nr14 => exact h.writeNr14 hp v
  case nr21 => exact h.setCh2 (h.ch2.setLength (Nat.sub_le _ _))
  case nr22 => exact h.setCh2 (h.ch2.setDac _)
  case nr24 => exact h.writeNr24 hp v
  case nr30 => exact h.setCh3 (h.ch3.setDac _)
  case nr31 => exact h.setCh3 (h.ch3.setLength (Nat.sub_le _ _))
  case nr34 => exact h.writeNr34 hp v c
  case nr41 => exact h.setCh4 (h.ch4.setLength (Nat.sub_le _ _))
  case nr42 => exact h.setCh4 (h.ch4.setDac _)
  case nr44 => exact h.writeNr44 hp v
  all_goals exact { h with }

theorem ApuOk.writeOff {p : Apu} (h : ApuOk p) (r : ApuReg) (v : Byte) : ApuOk (p.writeOff r v) := by
  cases r
  case nr11 => exact h.setCh1 (h.ch1.setLength (Nat.sub_le _ _))
  case nr21 => exact h.setCh2 (h.ch2.setLength (Nat.sub_le _ _))
  case nr31 => exact h.setCh3 (h.ch3.setLength (Nat.sub_le _ _))
  case nr41 => exact h.setCh4 (h.ch4.setLength (Nat.sub_le _ _))
  all_goals exact h

theorem ApuOk.write {p : Apu} (h : ApuOk p) (r : ApuReg) (v : Byte) (c : Nat) : ApuOk (p.write r v c) := by
  unfold Apu.write
  split
  next hp => exact h.writeOn hp r v c
  · exact h.writeOff r v

/-! ### The power switch (R620) -/

/-- No register write switches the power. -/
theorem writeOn_powered (r : ApuReg) (v : Byte) (c : Nat) (p : Apu) : (p.writeOn r v c).powered = p.powered := by
  cases r
  case nr10 | nr14 | nr24 | nr34 | nr44 =>
    simp only [Apu.writeOn, Apu.writeNr10, Apu.writeNr14, Apu.writeNr24, Apu.writeNr34, Apu.writeNr44, Apu.sweepTrigger,
      Apu.sweepCalc]
    repeat' split
    all_goals rfl
  all_goals rfl

theorem ApuOk.zeroAll {p : Apu} (h : ApuOk p) (hp : p.powered = true) (c : Nat) : ApuOk (p.zeroAll c) :=
  (List.foldlRecOn (motive := fun q => q.powered = true ∧ ApuOk q) ApuReg.all _ ⟨hp, h⟩ fun q hq r _ =>
    ⟨(writeOn_powered r 0 c q).trans hq.1, hq.2.writeOn hq.1 r 0 c⟩).2

/-- No status of `q` is on that is off in `p`. -/
structure Quieter (p q : Apu) : Prop where
  ch1 : p.ch1.status = false → q.ch1.status = false
  ch2 : p.ch2.status = false → q.ch2.status = false
  ch3 : p.ch3.status = false → q.ch3.status = false
  ch4 : p.ch4.status = false → q.ch4.status = false

theorem extraLengthClock_silent (next was : Bool) (v : Byte) (length : Nat) {status : Bool} (h : status = false) :
    (extraLengthClock next was v length status).2 = false := by
  unfold extraLengthClock
  split
  · dsimp only
    split
    · rfl
    · exact h
  · exact h

/-- A write of zero triggers no channel. -/
theorem writeOn_zero_quieter (r : ApuReg) (c : Nat) (p : Apu) : Quieter p (p.writeOn r 0 c) := by
  cases r
  case nr10 =>
    simp only [Apu.writeOn, Apu.writeNr10]
    split
    · exact ⟨fun _ => rfl, id, id, id⟩
    · exact ⟨id, id, id, id⟩
  case nr12 => exact ⟨fun _ => Bool.and_false _, id, id, id⟩
  case nr14 => exact ⟨extraLengthClock_silent _ _ 0 _, id, id, id⟩
  case nr22 => exact ⟨id, fun _ => Bool.and_false _, id, id⟩
  case nr24 => exact ⟨id, extraLengthClock_silent _ _ 0 _, id, id⟩
  case nr30 => exact ⟨id, id, fun _ => Bool.and_false _, id⟩
  case nr34 => exact ⟨id, id, extraLengthClock_silent _ _ 0 _, id⟩
  case nr42 => exact ⟨id, id, id, fun _ => Bool.and_false _⟩
  case nr44 => exact ⟨id, id, id, extraLengthClock_silent _ _ 0 _⟩
  all_goals exact ⟨id, id, id, id⟩

/-- What every step of a fold keeps and one of them brings about, the fold brings about. -/
theorem foldl_reaches {α β : Type} {P : α → Prop} {f : α → β → α} (keeps : ∀ x b, P x → P (f x b)) {b : β}
    (reaches : ∀ x, P (f x b)) {l : List β} (hb : b ∈ l) (x : α) : P (l.foldl f x) := by
  obtain ⟨l₁, l₂, rfl⟩ := List.append_of_mem hb
  rw [List.foldl_append, List.foldl_cons]
  exact List.foldlRecOn l₂ f (reaches _) fun y hy c _ => keeps y c hy

theorem ApuReg.mem_all (r : ApuReg) : r ∈ ApuReg.all := by cases r <;> decide

/-- What zero writes keep and the one of some register brings about, a power-off brings about. -/
theorem zeroAll_reaches {P : Apu → Prop} {c : Nat} (keeps : ∀ (q : Apu) (r : ApuReg), P q → P (q.writeOn r 0 c)) (r : ApuReg)
    (reaches : ∀ q : Apu, P (q.writeOn r 0 c)) (p : Apu) : P (p.zeroAll c) :=
  foldl_reaches keeps reaches (ApuReg.mem_all r) p

/-- Writing zero to NR12, NR22, NR30 and NR42 turns the DACs and so the channels off; no later zero turns one on (R605, R606). -/
theorem zeroAll_silent (c : Nat) (p : Apu) :
    (p.zeroAll c).ch1.status = false ∧ (p.zeroAll c).ch2.status = false ∧ (p.zeroAll c).ch3.status = false ∧
      (p.zeroAll c).ch4.status = false :=
  ⟨zeroAll_reaches (P := (·.ch1.status = false)) (fun q r => (writeOn_zero_quieter r c q).ch1) .nr12 (fun _ => Bool.and_false _) p,
   zeroAll_reaches (P := (·.ch2.status = false)) (fun q r => (writeOn_zero_quieter r c q).ch2) .nr22 (fun _ => Bool.and_false _) p,
   zeroAll_reaches (P := (·.ch3.status = false)) (fun q r => (writeOn_zero_quieter r c q).ch3) .nr30 (fun _ => Bool.and_false _) p,
   zeroAll_reaches (P := (·.ch4.status = false)) (fun q r => (writeOn_zero_quieter r c q).ch4) .nr42 (fun _ => Bool.and_false _) p⟩

/-- A silent channel needs neither DAC nor power. -/
theorem statusOk_silent {powered status dac : Bool} (h : status = false) : statusOk powered status dac :=
  fun hs => Bool.noConfusion (h.symm.trans hs)

theorem statusOk_powerOn {powered status dac : Bool} (h : statusOk powered status dac) : statusOk true status dac :=
  fun hs => ⟨(h hs).1, rfl⟩

theorem ApuOk.writeNr52 {p : Apu} (h : ApuOk p) (v : Byte) (c : Nat) : ApuOk (p.writeNr52 v c) := by
  unfold Apu.writeNr52
  split
  next hoff =>
    have hz := h.zeroAll (Bool.and_eq_true_iff.mp hoff).1 c
    obtain ⟨h1, h2, h3, h4⟩ := zeroAll_silent c p
    exact { hz with
      status1 := statusOk_silent h1, status2 := statusOk_silent h2, status3 := statusOk_silent h3, status4 := statusOk_silent h4 }
  · split
    · exact { h with
        status1 := statusOk_powerOn h.status1, status2 := statusOk_powerOn h.status2, status3 := statusOk_powerOn h.status3
        status4 := statusOk_powerOn h.status4, sequencer := ⟨Nat.succ_pos _, rfl⟩ }
    · exact h

/-- A wave RAM write changes wave RAM only. -/
theorem ApuOk.writeRam {p : Apu} (h : ApuOk p) (c k : Nat) (v : Byte) : ApuOk { p with ch3 := p.ch3.writeRam c k v } := by
  refine h.setCh3 ?_
  unfold Wave.writeRam
  split
  · split <;> exact h.ch3
  · exact h.ch3

/-- Settles O57: each tick and each register write keeps every channel's invariant. -/
theorem everyStepKeepsTheApuInvariant : Obligations.EveryStepKeepsTheApuInvariant := fun _ _ h hstep =>
  step_keeps_apu (P := ApuOk) (fun q v c _ hp => hp.write q v c) (fun v c _ hp => hp.writeNr52 v c)
    (fun c k _ v _ hp => hp.writeRam c k v) (fun t _ hp => hp.tick t) h hstep

end Sys2Proof.Machine
end

section
/-! PROOF. Register names, pairs and operand forms (R31, R32, R177); the running step and the EI delay (R35, R41, R180, R404, R690, R691);
the CPU after reset (R711, R714). -/

namespace Sys2Proof.Machine

/-! ### Registers and operand forms -/

/-- A register reads back what was written to it, and no other register changes. -/
theorem Cpu.reg_setReg (r q : Reg8) (v : Byte) (c : Cpu) : (c.setReg r v).reg q = if q = r then v else c.reg q := by
  cases r <;> cases q <;> rfl

theorem Cpu.setReg_frame (r : Reg8) (v : Byte) (c : Cpu) :
    (c.setReg r v).f = c.f ∧ (c.setReg r v).sp = c.sp ∧ (c.setReg r v).pc = c.pc ∧ c.setReg r (c.reg r) = c := by
  cases r <;> exact ⟨rfl, rfl, rfl, rfl⟩

/-- A pair reads back whole. -/
theorem Cpu.pairs_read_back (w : Word16) (c : Cpu) : (c.setBc w).bc = w ∧ (c.setDe w).de = w ∧ (c.setHl w).hl = w :=
  ⟨highByte_append_lowByte w, highByte_append_lowByte w, highByte_append_lowByte w⟩

/-- The operand that is a register. -/
def regOp (r : Reg8) : Op8 :=
  match r with
  | .b => .b
  | .c => .c
  | .d => .d
  | .e => .e
  | .h => .h
  | .l => .l
  | .a => .a

theorem readOp8_regOp (r : Reg8) (s : State) : readOp8 (regOp r) s = s.cpu.reg r := by cases r <;> rfl

theorem writeOp8_regOp (r : Reg8) (v : Byte) (s : State) : writeOp8 (regOp r) v s = { s with cpu := s.cpu.setReg r v } := by
  cases r <;> rfl

/-- Settles O1: each name, pair and operand form by its definition; a pair is put together from its two bytes. -/
theorem registersAndOperandFormsAlias : Obligations.RegistersAndOperandFormsAlias := by
  refine ⟨fun s v => ⟨?_, rfl, rfl⟩, fun c v w => ?_⟩
  · have hop : ∀ p ∈ [(Op8.b, Reg8.b), (.c, .c), (.d, .d), (.e, .e), (.h, .h), (.l, .l), (.a, .a)], p.1 = regOp p.2 := by decide
    intro p hp
    rw [hop p hp]
    exact ⟨readOp8_regOp p.2 s, writeOp8_regOp p.2 v s⟩
  · exact ⟨⟨rfl, rfl, rfl, rfl, rfl, rfl, rfl⟩, ⟨rfl, rfl, rfl, rfl, rfl, rfl, rfl⟩, fun r q => Cpu.reg_setReg r q v c,
      fun r => Cpu.setReg_frame r v c, ⟨rfl, rfl, rfl, rfl⟩, ⟨rfl, rfl, rfl, rfl, rfl, rfl, rfl⟩, Cpu.pairs_read_back w c,
      rfl, rfl, rfl, rfl⟩

/-! ### The running step -/

theorem runInstr_next {i : Instr} {s t : State} (h : exec i s = .next t) :
    runInstr i s = .next (interruptCheck (updateCycles (cost i s) (settleEi t))) := by
  rw [runInstr, h]

theorem runInstr_fault {i : Instr} {s : State} {f : Fault} (h : exec i s = .fault f) : runInstr i s = .fault f := by
  rw [runInstr, h]

/-- The bytes at PC decode to the fetched instruction, and as many of the two bytes after the opcode are left as it does not take. -/
theorem decode_at_pc {s : State} {i : Instr} {rest : List Byte}
    (h : decode [busRead s.cpu.pc s, busRead (afterOpcode s) s, busRead (afterOpcode s + 1) s] = .ok (i, rest)) :
    i = (fetched s).1 ∧ 2 - rest.length = (fetched s).2 - 1 := by
  have hd := (decode_three _ _ _).symm.trans h
  simp only [Except.ok.injEq, Prod.mk.injEq] at hd
  obtain ⟨hi, rfl⟩ := hd
  have hlen : (fetched s).2 ≤ 3 := (opEntry_length (busRead s.cpu.pc s)).2
  refine ⟨hi.symm, ?_⟩
  show 2 - ([busRead (afterOpcode s) s, busRead (afterOpcode s + 1) s].drop ((fetched s).2 - 1)).length = (fetched s).2 - 1
  simp only [List.length_drop, List.length_cons, List.length_nil]
  omega

/-- Settles O32: the running step is the run of the fetched instruction, which is the decoded one. -/
theorem stepRunsTheDecodedInstruction : Obligations.StepRunsTheDecodedInstruction := by
  intro s i rest hrun next hdec s1
  obtain ⟨rfl, hlen⟩ := decode_at_pc hdec
  have hs1 : s1 = afterFetch s := by
    simp only [s1, next, hlen]
    rfl
  rw [hs1, step_running hrun]
  exact ⟨fun t ht => runInstr_next ht, fun f hf => runInstr_fault hf⟩

/-! ### The EI delay -/

/-- Only DI writes the EI latch. -/
theorem exec_eiPending {i : Instr} {s t : State} (hi : i ≠ .di) (h : exec i s = .next t) : t.cpu.eiPending = s.cpu.eiPending := by
  cases hc : Instr.controls i
  case false => exact (exec_plain i s t hc h).eiPending
  case true =>
    obtain rfl | ⟨x, rfl⟩ | rfl | rfl | rfl := Instr.controls_cases hc <;> cases h
    · unfold opHalt
      split
      · rfl
      · split <;> rfl
    · rfl
    · exact absurd rfl hi
    · rfl
    · rfl

theorem settleEi_latched {s : State} (h : s.cpu.eiPending = true) :
    settleEi s = { s with cpu := { s.cpu with ime := true, eiPending := false } } := by
  rw [settleEi, if_pos h]
  rfl

theorem settleEi_unlatched {s : State} (h : s.cpu.eiPending = false) : settleEi s = s := by
  rw [settleEi, if_neg (by simp [h])]

/-- Settles O34: the fetch takes the latch from enable_next, and only DI clears it before the EI rule. -/
theorem eiTakesEffectAfterTheNextInstruction : Obligations.EiTakesEffectAfterTheNextInstruction := by
  intro s t hrun hexec
  have hstep := (step_running hrun).trans (runInstr_next hexec)
  have hlatch : (fetched s).1 ≠ .di → t.cpu.eiPending = s.cpu.enableNext := fun hi => exec_eiPending hi hexec
  have hdi : (fetched s).1 = .di → t.cpu.ime = false ∧ t.cpu.enableNext = false ∧ t.cpu.eiPending = false := by
    intro hi
    rw [hi] at hexec
    cases hexec
    exact ⟨rfl, rfl, rfl⟩
  refine ⟨fun he hi => ?_, fun hor => ?_, fun hi => ⟨(hdi hi).1, (hdi hi).2.1⟩, fun hi => ?_⟩
  · rw [hstep, settleEi_latched ((hlatch hi).trans he)]
  · have hclear : t.cpu.eiPending = false := by
      by_cases hi : (fetched s).1 = .di
      · exact (hdi hi).2.2
      · exact (hlatch hi).trans (hor.resolve_right hi)
    exact ⟨by rw [hstep, settleEi_unlatched hclear], hclear⟩
  · rw [hi] at hexec
    cases hexec
    exact ⟨rfl, rfl⟩

/-! ### Reset -/

/-- Settles O59: the reset state's CPU record holds these values for every cartridge and every INIT_MEM. -/
theorem resetCpuRegisters : Obligations.ResetCpuRegisters := fun _ _ =>
  ⟨⟨rfl, rfl, rfl, rfl, rfl, rfl, rfl, rfl⟩, rfl, rfl, rfl, rfl, rfl, rfl, rfl, rfl, rfl⟩

end Sys2Proof.Machine
end

section
/-! PROOF. The region map of the bus under its gates, and reading a register back (R45 to R48, R101 to R108, R143, R640). -/

namespace Sys2Proof.Machine

open Claims

/-! ### The DMA gate (R104) -/

/-- An address lies in a region exactly when it is in the region's range. -/
theorem region_eq_iff {a : Word16} {r : Region} : region a = r ↔ r.Range a.toNat := ⟨range_of_region, region_eq⟩

/-- The gate as R104 writes it is the gate of the model. -/
theorem gateOpen_iff {a : Word16} {s : State} : GateOpen a s ↔ dmaAllows (region a) s = true := by
  unfold GateOpen dmaAllows
  simp only [Bool.or_eq_true, Bool.and_eq_true, Bool.not_eq_true', beq_iff_eq, bne_iff_ne, ne_eq, region_eq_iff, Region.Range,
    or_assoc, and_assoc]
  have h : a.toNat ≤ 0xFFFE ↔ a.toNat < 0xFFFF := Nat.lt_succ_iff.symm
  rw [h]

theorem busRead_shut {a : Word16} {s : State} (h : ¬GateOpen a s) : busRead a s = 0xFF := by
  rw [busRead, if_neg (mt gateOpen_iff.mpr h)]

theorem busRead_open {a : Word16} {s : State} (h : GateOpen a s) : busRead a s = regionRead a s := by
  rw [busRead, if_pos (gateOpen_iff.mp h)]

theorem busWrite_shut {a : Word16} {s : State} (v : Byte) (h : ¬GateOpen a s) : busWrite a v s = s := by
  rw [busWrite, if_neg (mt gateOpen_iff.mpr h)]

theorem busWrite_open {a : Word16} {s : State} (v : Byte) (h : GateOpen a s) : busWrite a v s = regionWrite a v s := by
  rw [busWrite, if_pos (gateOpen_iff.mp h)]

theorem gateOpen_inactive {a : Word16} {s : State} (h : s.dma.active = false) : GateOpen a s := .inl h

/-! ### The PPU's gates (R105, R106) -/

theorem Ppu.locksVram_iff (p : Ppu) : p.locksVram = true ↔ p.mode = .transfer := beq_iff_eq

theorem Ppu.locksOam_iff (p : Ppu) : p.locksOam = true ↔ p.mode = .oamScan ∨ p.mode = .transfer := by
  simp only [Ppu.locksOam, Bool.or_eq_true, beq_iff_eq]

/-! ### The register map (R45) -/

/-- An unmapped address holds no register. -/
theorem ioReg_unmapped {a : Word16} (h : Unmapped a.toNat) : ioReg a = none := by
  refine List.lookup_eq_none_iff.mpr fun p hp => bne_iff_ne.mpr ?_
  have key : ∀ p ∈ ioMap, ¬(p.1 = 0xFF03 ∨ (0xFF08 ≤ p.1 ∧ p.1 ≤ 0xFF0E) ∨ p.1 = 0xFF15 ∨ p.1 = 0xFF1F ∨
      (0xFF27 ≤ p.1 ∧ p.1 ≤ 0xFF2F) ∨ (0xFF4C ≤ p.1 ∧ p.1 ≤ 0xFF7F)) := by decide
  exact fun e => key p hp (e ▸ h)

/-- An unmapped address lies in one of the two register regions. -/
theorem region_unmapped {a : Word16} (h : Unmapped a.toNat) : region a = .io ∨ region a = .apu := by
  unfold Unmapped at h
  simp only [region_eq_iff, Region.Range]
  omega

theorem regionRead_device {a : Word16} (h : region a = .io ∨ region a = .apu) (s : State) : regionRead a s = deviceRead a s := by
  obtain h | h := h <;> rw [regionRead, h]

theorem regionWrite_device {a : Word16} (h : region a = .io ∨ region a = .apu) (v : Byte) (s : State) :
    regionWrite a v s = deviceWrite a v s := by
  obtain h | h := h <;> rw [regionWrite, h]

theorem deviceRead_mapped {a : Word16} {r : IoReg} (h : ioReg a = some r) (s : State) : deviceRead a s = readIo r s := by
  rw [deviceRead, h]

theorem deviceWrite_mapped {a : Word16} {r : IoReg} (h : ioReg a = some r) (v : Byte) (s : State) :
    deviceWrite a v s = writeIo r v s := by
  rw [deviceWrite, h]

theorem deviceRead_unmapped {a : Word16} (h : Unmapped a.toNat) (s : State) : deviceRead a s = 0xFF := by
  rw [deviceRead, ioReg_unmapped h]

theorem deviceWrite_unmapped {a : Word16} (h : Unmapped a.toNat) (v : Byte) (s : State) : deviceWrite a v s = s := by
  rw [deviceWrite, ioReg_unmapped h]

/-! ### Wave RAM (R640) -/

theorem Wave.readRam_silent {ch : Wave} (h : ch.status = false) (c k : Nat) : ch.readRam c k = ch.ram.read k := by
  rw [Wave.readRam, if_neg (by simp [h])]

theorem Wave.readRam_clocked {ch : Wave} {c : Nat} {e : WaveLogEntry} (h : ch.status = true) (he : ch.clockedAt c = some e) (k : Nat) :
    ch.readRam c k = e.byte := by
  rw [Wave.readRam, if_pos h, he]

theorem Wave.readRam_unclocked {ch : Wave} {c : Nat} (h : ch.status = true) (he : ch.clockedAt c = none) (k : Nat) :
    ch.readRam c k = 0xFF := by
  rw [Wave.readRam, if_pos h, he]

theorem Wave.writeRam_silent {ch : Wave} (h : ch.status = false) (c k : Nat) (v : Byte) :
    ch.writeRam c k v = { ch with ram := ch.ram.write k v } := by
  rw [Wave.writeRam, if_neg (by simp [h])]

theorem Wave.writeRam_clocked {ch : Wave} {c : Nat} {e : WaveLogEntry} (h : ch.status = true) (he : ch.clockedAt c = some e) (k : Nat)
    (v : Byte) : ch.writeRam c k v = { ch with ram := ch.ram.write (ch.position.toNat / 2) v } := by
  rw [Wave.writeRam, if_pos h, he]

theorem Wave.writeRam_unclocked {ch : Wave} {c : Nat} (h : ch.status = true) (he : ch.clockedAt c = none) (k : Nat) (v : Byte) :
    ch.writeRam c k v = ch := by
  rw [Wave.writeRam, if_pos h, he]

theorem Wave.clockedAt_log0 {t : Nat} {ch : Wave} (h : ch.log0.time = some t) : ch.clockedAt t = some ch.log0 := by
  rw [Wave.clockedAt, if_pos h]

theorem Wave.clockedAt_log1 {t : Nat} {ch : Wave} (h0 : ch.log0.time ≠ some t) (h1 : ch.log1.time = some t) :
    ch.clockedAt t = some ch.log1 := by
  rw [Wave.clockedAt, if_neg h0, if_pos h1]

/-! ### The region map -/

/-- Settles O36: the gate, then the region of the address. -/
theorem busReadsFollowTheRegionMap : Obligations.BusReadsFollowTheRegionMap := by
  intro s a
  refine ⟨busRead_shut, fun hg => ?_⟩
  have hregion : ∀ r : Region, r.Range a.toNat → region a = r := fun r h => region_eq h
  rw [busRead_open (s := { s with dma := { s.dma with active := false } }) (gateOpen_inactive rfl), regionRead_active,
    busRead_open hg]
  refine ⟨fun h => ?_, fun h h' => ?_, fun h h' => ?_, fun h h' => ?_, fun h h' => ?_, fun h h' => ?_, fun h h' => ?_, fun h => ?_,
    fun h h' => ?_, fun h h' => ?_, rfl⟩
  · rw [regionRead, hregion .rom0 h]
  · rw [regionRead, hregion .romN ⟨h, h'⟩]
    rfl
  · rw [regionRead, hregion .vram ⟨h, h'⟩]
    simp only [Ppu.locksVram_iff]
  · by_cases hb : a.toNat < 0xD000
    · rw [regionRead, hregion .wram0 ⟨h, hb⟩]
    · rw [regionRead, hregion .wramN ⟨Nat.le_of_not_lt hb, h'⟩]
  · rw [regionRead, hregion .echo ⟨h, h'⟩]
  · rw [regionRead, hregion .oam ⟨h, h'⟩]
    simp only [Ppu.locksOam_iff]
  · rw [regionRead, hregion .unused ⟨h, h'⟩]
  · rw [regionRead_device (region_unmapped h), deviceRead_unmapped h]
  · rw [regionRead, hregion .wave ⟨h, h'⟩]
    exact ⟨fun hs => Wave.readRam_silent hs _ _, fun hs h0 _ => Wave.readRam_clocked hs (Wave.clockedAt_log0 h0) _,
      fun hs h0 h1 => Wave.readRam_clocked hs (Wave.clockedAt_log1 h0 h1) _,
      fun hs h0 h1 => Wave.readRam_unclocked hs (Wave.clockedAt_none h0 h1) _⟩
  · rw [regionRead, hregion .hram ⟨h, h'⟩]

/-- Settles O37: the gate, then the region of the address. -/
theorem busWritesFollowTheRegionMap : Obligations.BusWritesFollowTheRegionMap := by
  intro s a v
  refine ⟨busWrite_shut v, fun hg => ?_⟩
  have hregion : ∀ r : Region, r.Range a.toNat → region a = r := fun r h => region_eq h
  rw [busWrite_open v (s := { s with dma := { s.dma with active := false } }) (gateOpen_inactive rfl), busWrite_open v hg]
  refine ⟨fun h => ?_, fun h h' => ?_, fun h h' => ?_, fun h h' => ?_, fun h h' => ?_, fun h h' => ?_, fun h => ?_,
    fun h h' => ?_, fun h h' => ?_, regionWrite_active v s false⟩
  · by_cases hb : a.toNat < 0x4000
    · rw [regionWrite, hregion .rom0 hb]
    · rw [regionWrite, hregion .romN ⟨Nat.le_of_not_lt hb, h⟩]
  · rw [regionWrite, hregion .vram ⟨h, h'⟩]
    simp only [Ppu.locksVram_iff]
  · by_cases hb : a.toNat < 0xD000
    · rw [regionWrite, hregion .wram0 ⟨h, hb⟩]
    · rw [regionWrite, hregion .wramN ⟨Nat.le_of_not_lt hb, h'⟩]
  · rw [regionWrite, hregion .echo ⟨h, h'⟩]
  · rw [regionWrite, hregion .oam ⟨h, h'⟩]
    simp only [Ppu.locksOam_iff]
  · rw [regionWrite, hregion .unused ⟨h, h'⟩]
  · obtain h | h := h
    · rw [regionWrite_device (region_unmapped h), deviceWrite_unmapped h]
    · obtain rfl : a = 0xFF44 := BitVec.eq_of_toNat_eq h
      exact (regionWrite_device (.inl rfl) v s).trans (deviceWrite_mapped (r := .ly) rfl v s)
  · rw [regionWrite, hregion .wave ⟨h, h'⟩]
    refine ⟨fun hs => ?_, fun hs hc => ?_, fun hs h0 h1 => ?_⟩
    · rw [Wave.writeRam_silent hs]
    · obtain ⟨e, he⟩ := Option.isSome_iff_exists.mp (Wave.clockedAt_isSome.mpr hc)
      rw [Wave.writeRam_clocked hs he]
    · rw [Wave.writeRam_unclocked hs (Wave.clockedAt_none h0 h1)]
  · rw [regionWrite, hregion .hram ⟨h, h'⟩]

/-! ### Reading a register back (R46, R47) -/

/-- The unused bits of an APU register (R47). -/
def soundMask (q : ApuReg) : Byte :=
  match q with
  | .nr10 => 0x80
  | .nr11 | .nr21 => 0x3F
  | .nr30 => 0x7F
  | .nr32 => 0x9F
  | .nr14 | .nr24 | .nr34 | .nr44 => 0xBF
  | .nr13 | .nr23 | .nr31 | .nr33 | .nr41 => 0xFF
  | .nr12 | .nr22 | .nr42 | .nr43 | .nr50 | .nr51 => 0x00

/-- The unused bits of a register outside the APU that stores what is written to it (R47). -/
def storingMask (r : IoReg) : Option Byte :=
  match r with
  | .sc => some 0x7E
  | .tac => some 0xF8
  | .iflag => some 0xE0
  | .sb | .tima | .tma | .lcdc | .scy | .scx | .lyc | .bgp | .obp0 | .obp1 | .wy | .wx | .ie => some 0x00
  | .joyp | .div | .sound _ | .nr52 | .stat | .ly | .dma => none

theorem readControl_eq (v : Byte) : readControl (v.getLsbD 6) = v ||| 0xBF := by
  unfold readControl; revert v; decide

theorem Envelope.readReg_write (v : Byte) (e : Envelope) : (e.write v).readReg = v ||| 0x00 := by
  show v.extractLsb' 4 4 ++ BitVec.ofBool (v.getLsbD 3) ++ v.extractLsb' 0 3 = v ||| 0x00
  revert v; decide

theorem or_all_ones (v : Byte) : 0xFF = v ||| 0xFF := by revert v; decide

/-- A trigger leaves length_enabled as the NRx4 write has set it (R58, R610). -/
theorem writeNr14_lengthEnabled (v : Byte) (p : Apu) : (p.writeNr14 v).ch1.lengthEnabled = v.getLsbD 6 := by
  unfold Apu.writeNr14 Apu.sweepTrigger
  dsimp only
  repeat' split
  all_goals rfl

theorem writeNr24_lengthEnabled (v : Byte) (p : Apu) : (p.writeNr24 v).ch2.lengthEnabled = v.getLsbD 6 := by
  unfold Apu.writeNr24
  dsimp only
  split <;> rfl

theorem writeNr34_lengthEnabled (v : Byte) (c : Nat) (p : Apu) : (p.writeNr34 v c).ch3.lengthEnabled = v.getLsbD 6 := by
  unfold Apu.writeNr34 Wave.trigger
  obtain ⟨m, he⟩ := Wave.corrupt_eq c (p.ch3.writeControl p.nextIsLength v)
  dsimp only
  rw [he]
  split <;> rfl

theorem writeNr44_lengthEnabled (v : Byte) (p : Apu) : (p.writeNr44 v).ch4.lengthEnabled = v.getLsbD 6 := by
  unfold Apu.writeNr44
  dsimp only
  split <;> rfl

theorem writeNr10_read (v : Byte) (p : Apu) : (p.writeNr10 v).read .nr10 = v ||| 0x80 := by
  have key : ∀ v : Byte, 0b1#1 ++ v.extractLsb' 4 3 ++ BitVec.ofBool (v.getLsbD 3) ++ v.extractLsb' 0 3 = v ||| 0x80 := by decide
  rw [← key v]
  unfold Apu.writeNr10
  dsimp only
  split <;> rfl

/-- A powered APU register reads back what was written OR its unused bits. -/
theorem Apu.read_writeOn (q : ApuReg) (v : Byte) (c : Nat) (p : Apu) : (p.writeOn q v c).read q = v ||| soundMask q := by
  have duty : ∀ v : Byte, v.extractLsb' 6 2 ++ 0b111111#6 = v ||| 0x3F := by decide
  have dac : ∀ v : Byte, BitVec.ofBool (v.getLsbD 7) ++ 0b1111111#7 = v ||| 0x7F := by decide
  have code : ∀ v : Byte, 0b1#1 ++ v.extractLsb' 5 2 ++ 0b11111#5 = v ||| 0x9F := by decide
  have poly : ∀ v : Byte, v.extractLsb' 4 4 ++ BitVec.ofBool (v.getLsbD 3) ++ v.extractLsb' 0 3 = v ||| 0x00 := by decide
  cases q
  case nr10 => exact writeNr10_read v p
  case nr11 | nr21 => exact duty v
  case nr12 | nr22 | nr42 => exact Envelope.readReg_write v _
  case nr14 => exact (congrArg readControl (writeNr14_lengthEnabled v p)).trans (readControl_eq v)
  case nr24 => exact (congrArg readControl (writeNr24_lengthEnabled v p)).trans (readControl_eq v)
  case nr34 => exact (congrArg readControl (writeNr34_lengthEnabled v c p)).trans (readControl_eq v)
  case nr44 => exact (congrArg readControl (writeNr44_lengthEnabled v p)).trans (readControl_eq v)
  case nr30 => exact dac v
  case nr32 => exact code v
  case nr43 => exact poly v
  case nr13 | nr23 | nr31 | nr33 | nr41 => exact or_all_ones v
  case nr50 | nr51 => exact (BitVec.or_zero (x := v)).symm

theorem writeLcdc_lcdc (v : Byte) (s : State) : (writeLcdc v s).ppu.lcdc = v := by
  unfold writeLcdc
  simp only [checkLyc_eq]
  repeat' split
  all_goals rfl

/-- A storing register reads back what was written OR its unused bits. -/
theorem readIo_writeIo {r : IoReg} {m : Byte} (h : storingMask r = some m) (v : Byte) (s : State) : readIo r (writeIo r v s) = v ||| m := by
  have sc : ∀ v : Byte, BitVec.ofBool (v.getLsbD 7) ++ 0b111111#6 ++ BitVec.ofBool (v.getLsbD 0) = v ||| 0x7E := by decide
  have tac : ∀ v : Byte, 0b11111#5 ++ BitVec.ofBool (v.getLsbD 2) ++ v.extractLsb' 0 2 = v ||| 0xF8 := by decide
  have flags : ∀ v : Byte, 0b111#3 ++ v.extractLsb' 0 5 = v ||| 0xE0 := by decide
  cases r <;> cases h
  case sc => exact sc v
  case tac =>
    rw [← tac v]
    show (s.timer.writeTac v).readTac = _
    unfold Timer.writeTac
    dsimp only
    split <;> rfl
  case iflag => exact flags v
  case lcdc => exact (writeLcdc_lcdc v s).trans (BitVec.or_zero (x := v)).symm
  all_goals exact (BitVec.or_zero (x := v)).symm

/-- No register write but the DMA register's starts or stops a transfer. -/
theorem writeIo_dma {r : IoReg} (h : r ≠ .dma) (v : Byte) (s : State) : (writeIo r v s).dma = s.dma := by
  cases r
  case dma => exact absurd rfl h
  case lcdc =>
    obtain ⟨p, k, he⟩ := writeLcdc_frame v s
    show (writeLcdc v s).dma = s.dma
    rw [he]
  all_goals rfl

/-- With no transfer active a mapped address is its register, for the write and for the read after it. -/
theorem busRead_busWrite_mapped {a : Word16} {r : IoReg} {s : State} (hr : ioReg a = some r) (hreg : region a = .io ∨ region a = .apu)
    (hr' : r ≠ .dma) (hd : s.dma.active = false) (v : Byte) : busRead a (busWrite a v s) = readIo r (writeIo r v s) := by
  have hw : busWrite a v s = writeIo r v s := by
    rw [busWrite_open v (gateOpen_inactive hd), regionWrite_device hreg, deviceWrite_mapped hr]
  rw [hw, busRead_open (gateOpen_inactive (by rwa [writeIo_dma hr'])), regionRead_device hreg, deviceRead_mapped hr]

/-- The registers of `ioMasks` store with the masks listed there. -/
theorem ioMasks_stored {p : Word16 × Byte} (h : p ∈ ioMasks) :
    ∃ r, ioReg p.1 = some r ∧ storingMask r = some p.2 ∧ region p.1 = .io := by
  fin_cases h <;> exact ⟨_, rfl, rfl, rfl⟩

/-- The addresses of `apuMasks` are those of the APU's registers, with their masks. -/
theorem apuMasks_sound {p : Word16 × Byte} (h : p ∈ apuMasks) :
    ∃ q, ioReg p.1 = some (.sound q) ∧ soundMask q = p.2 ∧ region p.1 = .apu := by
  fin_cases h <;> exact ⟨_, rfl, rfl, rfl⟩

/-- JOYP's upper half: the select bits under two ones, over any lines (R48). -/
theorem joypad_read_write_high (v : Byte) (j : Joypad) : (j.write v).read &&& 0xF0 = v &&& 0x30 ||| 0xC0 := by
  have low : ∀ (x y : BitVec 4), (x ++ y : Byte) &&& 0xF0 = x ++ 0#4 := by decide
  have high : ∀ v : Byte, (0b11#2 ++ v.extractLsb' 4 2 : BitVec 4) ++ 0#4 = v &&& 0x30 ||| 0xC0 := by decide
  exact (low _ _).trans (high v)

/-- STAT's upper five bits: the enables under a one, over any coincidence and mode (R69). -/
theorem stat_read_write_high (v : Byte) (p : Ppu) : (p.writeStat v).readStat &&& 0xF8 = v &&& 0x78 ||| 0x80 := by
  have low : ∀ (x : BitVec 5) (c : BitVec 1) (m : BitVec 2), (x ++ c ++ m : Byte) &&& 0xF8 = x ++ 0#3 := by decide
  have high : ∀ v : Byte, (0b1#1 ++ v.extractLsb' 3 4 : BitVec 5) ++ 0#3 = v &&& 0x78 ||| 0x80 := by decide
  exact (low _ _ _).trans (high v)

/-- Settles O41: a mapped address is its register, and each register stores its bits and reads the rest as ones. -/
theorem ioRegistersReadBackOrTheirMask : Obligations.IoRegistersReadBackOrTheirMask := by
  intro s v hd
  refine ⟨fun p hp => ?_, fun hpow p hp => ?_, ?_, ?_⟩
  · obtain ⟨r, hr, hm, hreg⟩ := ioMasks_stored hp
    have hne : r ≠ .dma := by rintro rfl; cases hm
    rw [busRead_busWrite_mapped hr (.inl hreg) hne hd, readIo_writeIo hm]
  · obtain ⟨q, hr, hm, hreg⟩ := apuMasks_sound hp
    rw [busRead_busWrite_mapped hr (.inr hreg) nofun hd, ← hm]
    show (s.apu.write q v s.cycles).read q = v ||| soundMask q
    rw [Apu.write, if_pos hpow, Apu.read_writeOn]
  · rw [busRead_busWrite_mapped (r := .joyp) rfl (.inl rfl) nofun hd]
    exact joypad_read_write_high v s.joypad
  · rw [busRead_busWrite_mapped (r := .stat) rfl (.inl rfl) nofun hd]
    exact stat_read_write_high v s.ppu

end Sys2Proof.Machine
end

section
/-! PROOF. What one bus write can do, region by region (R101, R103); the mapper registers and external RAM (R132 to R142); every step keeps
the mapper's invariant. -/

namespace Sys2Proof.Machine

/-! ### One bus write, region by region (R103) -/

/-- What a write of `v` to `a` can make of a state: nothing, or a change of the one record that belongs to the address's region. -/
inductive BusEffect (a : Word16) (v : Byte) (s : State) : State → Prop where
  | dropped : BusEffect a v s s
  | mapper (h : a.toNat < 0x8000) : BusEffect a v s { s with mapper := s.mapper.write s.cart.kind a v }
  | vram (h : 0x8000 ≤ a.toNat ∧ a.toNat < 0xA000) (m : Memory) : BusEffect a v s { s with vram := m }
  | eram (h : 0xA000 ≤ a.toNat ∧ a.toNat < 0xC000) (m : Memory) : BusEffect a v s { s with eram := m }
  | wram (h : 0xC000 ≤ a.toNat ∧ a.toNat < 0xFE00) (m : Memory) : BusEffect a v s { s with wram := m }
  | oam (h : 0xFE00 ≤ a.toNat ∧ a.toNat < 0xFEA0) (m : Memory) : BusEffect a v s { s with oam := m }
  | hram (h : 0xFF80 ≤ a.toNat ∧ a.toNat < 0xFFFF) (m : Memory) : BusEffect a v s { s with hram := m }
  | device (h : 0xFF00 ≤ a.toNat) (tm : Timer) (sr : Serial) (se : BitVec 2) (d : Dma) (p : Ppu) (q : Apu) (ie : Byte) (k : BitVec 5) :
      BusEffect a v s { s with timer := tm, serial := sr, joypad.select := se, dma := d, ppu := p, apu := q, ie := ie, iflag := k }

/-- An external RAM write changes external RAM only. -/
theorem eramWrite_frame (a : Word16) (v : Byte) (s : State) : ∃ m, eramWrite a v s = { s with eram := m } := by
  unfold eramWrite
  repeat' split
  all_goals exact ⟨_, rfl⟩

theorem regionWrite_effect (a : Word16) (v : Byte) (s : State) : BusEffect a v s (regionWrite a v s) := by
  unfold regionWrite
  cases hr : region a <;> have h := range_of_region hr <;> dsimp only [Region.Range] at h ⊢
  case rom0 | romN => exact .mapper (by omega)
  case vram =>
    split
    · exact .dropped
    · exact .vram h _
  case eram =>
    obtain ⟨m, he⟩ := eramWrite_frame a v s
    rw [he]
    exact .eram h m
  case wram0 | wramN | echo => exact .wram (by omega) _
  case oam =>
    split
    · exact .dropped
    · exact .oam h _
  case unused => exact .dropped
  case io | apu =>
    obtain ⟨tm, sr, se, d, p, q, ie, k, he⟩ := deviceWrite_frame a v s
    rw [he]
    exact .device (by omega) tm sr se d p q ie k
  case wave => exact .device (by omega) s.timer s.serial s.joypad.select s.dma s.ppu _ s.ie s.iflag
  case hram => exact .hram h _

/-- A bus write has one of these effects. -/
theorem busWrite_effect (a : Word16) (v : Byte) (s : State) : BusEffect a v s (busWrite a v s) := by
  unfold busWrite
  split
  · exact regionWrite_effect a v s
  · exact .dropped

section
variable {a : Word16} {v : Byte} {s t : State}

theorem BusEffect.mapper_outside (h : BusEffect a v s t) (ha : 0x8000 ≤ a.toNat) : t.mapper = s.mapper := by
  cases h with
  | mapper h => exact absurd ha (Nat.not_le_of_lt h)
  | _ => rfl

theorem BusEffect.vram_outside (h : BusEffect a v s t) (ha : ¬(0x8000 ≤ a.toNat ∧ a.toNat < 0xA000)) : t.vram = s.vram := by
  cases h with
  | vram h => exact absurd h ha
  | _ => rfl

theorem BusEffect.eram_outside (h : BusEffect a v s t) (ha : ¬(0xA000 ≤ a.toNat ∧ a.toNat < 0xC000)) : t.eram = s.eram := by
  cases h with
  | eram h => exact absurd h ha
  | _ => rfl

theorem BusEffect.wram_outside (h : BusEffect a v s t) (ha : ¬(0xC000 ≤ a.toNat ∧ a.toNat < 0xFE00)) : t.wram = s.wram := by
  cases h with
  | wram h => exact absurd h ha
  | _ => rfl

theorem BusEffect.oam_outside (h : BusEffect a v s t) (ha : ¬(0xFE00 ≤ a.toNat ∧ a.toNat < 0xFEA0)) : t.oam = s.oam := by
  cases h with
  | oam h => exact absurd h ha
  | _ => rfl

theorem BusEffect.hram_outside (h : BusEffect a v s t) (ha : ¬(0xFF80 ≤ a.toNat ∧ a.toNat < 0xFFFF)) : t.hram = s.hram := by
  cases h with
  | hram h => exact absurd h ha
  | _ => rfl

/-- Below 0xFF00 no write reaches IE, IF or a device. -/
theorem BusEffect.devices_outside (h : BusEffect a v s t) (ha : a.toNat < 0xFF00) :
    t.ie = s.ie ∧ t.iflag = s.iflag ∧ t.timer = s.timer ∧ t.serial = s.serial ∧ t.joypad = s.joypad ∧ t.dma = s.dma ∧ t.ppu = s.ppu ∧
      t.apu = s.apu := by
  cases h with
  | device h => exact absurd ha (Nat.not_lt_of_le h)
  | _ => exact ⟨rfl, rfl, rfl, rfl, rfl, rfl, rfl, rfl⟩

end

/-- Settles O40: the frame of every write, then the one record that belongs to the address's region. -/
theorem busWritesKeepTheRestOfTheMachine : Obligations.BusWritesKeepTheRestOfTheMachine := by
  intro s a v
  have f := busWrite_frame a v s
  have h := busWrite_effect a v s
  exact ⟨⟨f.cpu, f.cart, f.framebuffer, f.samples, f.events, f.cycles, f.keys⟩, h.mapper_outside, h.vram_outside, h.eram_outside,
    h.wram_outside, h.oam_outside, h.hram_outside, h.devices_outside⟩

/-! ### MBC1: its fields, then the recompute (R135 to R139) -/

/-- The fields of MBC1 after a write, before the recompute (R135 to R138). -/
def Mapper.mbc1Store (a : Word16) (v : Byte) (m : Mapper) : Mapper :=
  { m with
    extRamEnabled := if a.toNat < 0x2000 then ramEnableValue v else m.extRamEnabled
    byte2000 := if 0x2000 ≤ a.toNat ∧ a.toNat < 0x4000 then v.extractLsb' 0 5 else m.byte2000
    byte4000 := if 0x4000 ≤ a.toNat ∧ a.toNat < 0x6000 then v.extractLsb' 0 2 else m.byte4000
    bankMode := if 0x6000 ≤ a.toNat then (if v.getLsbD 0 then .ram else .rom) else m.bankMode }

/-- Every MBC1 write ends in the recompute. -/
theorem mbc1Write_eq (a : Word16) (v : Byte) (m : Mapper) : m.mbc1Write a v = (m.mbc1Store a v).mbc1Recompute := by
  unfold Mapper.mbc1Write Mapper.mbc1Store
  by_cases h1 : a.toNat < 0x2000
  · simp [h1, show ¬0x2000 ≤ a.toNat by omega, show ¬0x4000 ≤ a.toNat by omega, show ¬0x6000 ≤ a.toNat by omega]
  · by_cases h2 : a.toNat < 0x4000
    · simp [h1, h2, show 0x2000 ≤ a.toNat by omega, show ¬0x4000 ≤ a.toNat by omega, show ¬0x6000 ≤ a.toNat by omega]
    · by_cases h3 : a.toNat < 0x6000
      · simp [h1, h2, h3, show 0x4000 ≤ a.toNat by omega, show ¬0x6000 ≤ a.toNat by omega]
      · simp [h1, h2, h3, show 0x6000 ≤ a.toNat by omega]

section
variable (m : Mapper)

@[simp] theorem mbc1Recompute_extRamEnabled : m.mbc1Recompute.extRamEnabled = m.extRamEnabled := by
  unfold Mapper.mbc1Recompute; split <;> rfl

@[simp] theorem mbc1Recompute_byte2000 : m.mbc1Recompute.byte2000 = m.byte2000 := by
  unfold Mapper.mbc1Recompute; split <;> rfl

@[simp] theorem mbc1Recompute_byte4000 : m.mbc1Recompute.byte4000 = m.byte4000 := by
  unfold Mapper.mbc1Recompute; split <;> rfl

@[simp] theorem mbc1Recompute_bankMode : m.mbc1Recompute.bankMode = m.bankMode := by
  unfold Mapper.mbc1Recompute; split <;> rfl

theorem mbc1Low5_toNat (x : BitVec 5) : (mbc1Low5 x).toNat = if x = 0 then 1 else x.toNat := by
  unfold mbc1Low5
  split <;> rfl

/-- The ROM bank in numbers: the bumped low five bits, and in ROM mode the two high bits above them (R139). -/
theorem mbc1Recompute_romBank :
    m.mbc1Recompute.romBank.toNat =
      (if m.byte2000 = 0 then 1 else m.byte2000.toNat) + (if m.bankMode = .rom then 32 * m.byte4000.toNat else 0) := by
  have append : ∀ (hi : BitVec 2) (lo : BitVec 5), (hi ++ lo).toNat = lo.toNat + 32 * hi.toNat := by decide
  have widen : ∀ lo : BitVec 5, (lo.setWidth 7).toNat = lo.toNat := by decide
  rw [← mbc1Low5_toNat]
  unfold Mapper.mbc1Recompute
  cases m.bankMode
  · exact append _ _
  · exact widen _

/-- The RAM bank in numbers (R139). -/
theorem mbc1Recompute_extRamBank : m.mbc1Recompute.extRamBank.toNat = if m.bankMode = .rom then 0 else m.byte4000.toNat := by
  have widen : ∀ x : BitVec 2, (x.setWidth 3).toNat = x.toNat := by decide
  unfold Mapper.mbc1Recompute
  cases m.bankMode
  · rfl
  · exact widen _

/-- A second recompute changes nothing. -/
theorem mbc1Recompute_idem : m.mbc1Recompute.mbc1Recompute = m.mbc1Recompute := by
  obtain ⟨_, _, _, _, _, mode⟩ := m
  cases mode <;> rfl

/-- The bumped low five bits keep bank 0 out (R139). -/
theorem mbc1Recompute_romBank_ne_zero : m.mbc1Recompute.romBank ≠ 0 := by
  intro h
  have hb := mbc1Recompute_romBank m
  rw [h, ← mbc1Low5_toNat] at hb
  have hlow : ∀ x : BitVec 5, (mbc1Low5 x).toNat ≠ 0 := by decide
  have := hlow m.byte2000
  change 0 = _ at hb
  omega

end

/-! ### Every step keeps the mapper's invariant -/

/-- A mapper write leaves what its mapper can hold (R134, R139, R140, R142). -/
theorem mapperOk_write {kind : MapperKind} {m : Mapper} (a : Word16) (v : Byte) (h : MapperOk kind m) : MapperOk kind (m.write kind a v) := by
  cases kind with
  | mbc0 => exact h
  | mbc1 =>
    show (m.mbc1Write a v).mbc1Recompute = m.mbc1Write a v
    rw [mbc1Write_eq, mbc1Recompute_idem]
  | mbc2 =>
    have bank : ∀ x : BitVec 4, (x.setWidth 7).toNat < 16 := by decide
    show MapperOk .mbc2 (m.mbc2Write a v)
    unfold Mapper.mbc2Write
    split
    · exact h
    · split
      · exact ⟨bank _, h.2⟩
      · exact h
  | mbc3 =>
    have bank : ∀ x : BitVec 7, (if x = 0 then 1 else x) ≠ 0 := by decide
    show (m.mbc3Write a v).romBank ≠ 0
    unfold Mapper.mbc3Write
    split
    · exact h
    · split
      · exact bank _
      · split <;> exact h

theorem BusEffect.mapperOk {a : Word16} {v : Byte} {s t : State} (h : BusEffect a v s t) (hs : MapperOk s.cart.kind s.mapper) :
    MapperOk t.cart.kind t.mapper := by
  cases h with
  | mapper h => exact mapperOk_write a v hs
  | _ => exact hs

@[simp] theorem updateCycles_mapper (n : Nat) (s : State) : (updateCycles n s).mapper = s.mapper := by
  obtain ⟨d, m, p, fb, k, tm, a, x, h⟩ := updateCycles_frame n s
  rw [h]

/-- Settles O58: only a bus write below 0x8000 reaches the mapper registers, and each mapper's write leaves what it can hold. -/
theorem everyStepKeepsTheMapperInvariant : Obligations.EveryStepKeepsTheMapperInvariant := by
  refine ⟨fun s t h hstep => ?_, fun m h => ?_⟩
  · exact step_keeps (P := fun u => MapperOk u.cart.kind u.mapper) (fun _ _ hu => hu) (fun a v u hu => (busWrite_effect a v u).mapperOk hu)
      (fun _ _ hu => hu) (fun n u hu => by rwa [updateCycles_cart, updateCycles_mapper]) h hstep
  · obtain (h : m.mbc1Recompute = m) | h := h
    · exact h ▸ mbc1Recompute_romBank_ne_zero m
    · exact h

/-! ### The mapper writes and external RAM in numbers (R132 to R142) -/

theorem ramEnableValue_eq (v : Byte) : ramEnableValue v = decide (v.toNat % 16 = 10) := by
  unfold ramEnableValue; revert v; decide

theorem mbc2Bank_eq (v : Byte) : (v.extractLsb' 0 4).setWidth 7 = BitVec.ofNat 7 (v.toNat % 16) := by revert v; decide

/-- MBC3 takes bank 0 as 1 (R142). -/
theorem mbc3Bank_eq (v : Byte) :
    (if v.extractLsb' 0 7 = 0 then 1 else v.extractLsb' 0 7) = if v.toNat % 128 = 0 then 1 else BitVec.ofNat 7 v.toNat := by
  revert v; decide

theorem mbc3RamBank_eq (v : Byte) : v.extractLsb' 0 3 = BitVec.ofNat 3 v.toNat := by revert v; decide

theorem mbc1Store_byte2000 (a : Word16) (v : Byte) (m : Mapper) :
    (m.mbc1Store a v).byte2000.toNat = if 0x2000 ≤ a.toNat ∧ a.toNat < 0x4000 then v.toNat % 32 else m.byte2000.toNat := by
  have low : ∀ v : Byte, (v.extractLsb' 0 5).toNat = v.toNat % 32 := by decide
  rw [← low, ← apply_ite BitVec.toNat]
  rfl

theorem mbc1Store_byte4000 (a : Word16) (v : Byte) (m : Mapper) :
    (m.mbc1Store a v).byte4000.toNat = if 0x4000 ≤ a.toNat ∧ a.toNat < 0x6000 then v.toNat % 4 else m.byte4000.toNat := by
  have low : ∀ v : Byte, (v.extractLsb' 0 2).toNat = v.toNat % 4 := by decide
  rw [← low, ← apply_ite BitVec.toNat]
  rfl

theorem region_eram {a : Word16} (h : 0xA000 ≤ a.toNat) (h' : a.toNat < 0xC000) : region a = .eram := region_eq (r := .eram) ⟨h, h'⟩

/-- External RAM outside MBC2 is indexed by the RAM bank (R132). -/
theorem eramIndex_banked {s : State} (h : s.cart.kind ≠ .mbc2) (a : Word16) :
    eramIndex a s = s.mapper.extRamBank.toNat * 0x2000 + a.toNat % 0x2000 := by
  unfold eramIndex
  split
  next hk => exact absurd hk h
  · rfl

/-- MBC2's RAM is indexed by nine address bits (R141). -/
theorem eramIndex_mbc2 {s : State} (h : s.cart.kind = .mbc2) (a : Word16) : eramIndex a s = a.toNat % 512 := by
  rw [eramIndex, h]

section
variable {s : State} {a : Word16}

theorem eram_disabled (v : Byte) (h : s.mapper.extRamEnabled = false) : eramRead a s = 0xFF ∧ eramWrite a v s = s := by
  simp [eramRead, eramWrite, h]

theorem eram_mbc2 (v : Byte) (h : s.mapper.extRamEnabled = true) (hk : s.cart.kind = .mbc2) :
    eramRead a s = s.eram.read (a.toNat % 512) &&& 0x0F ∧
      eramWrite a v s = { s with eram := s.eram.write (a.toNat % 512) (v &&& 0x0F) } := by
  simp [eramRead, eramWrite, h, hk, eramIndex_mbc2 hk]

theorem eram_beyond (v : Byte) (h : s.mapper.extRamEnabled = true) (hk : s.cart.kind ≠ .mbc2)
    (hb : s.cart.extRamSize ≤ eramIndex a s) : eramRead a s = 0x00 ∧ eramWrite a v s = s := by
  simp [eramRead, eramWrite, h, hk, hb]

theorem eram_inside (v : Byte) (h : s.mapper.extRamEnabled = true) (hk : s.cart.kind ≠ .mbc2)
    (hb : eramIndex a s < s.cart.extRamSize) :
    eramRead a s = s.eram.read (eramIndex a s) ∧ eramWrite a v s = { s with eram := s.eram.write (eramIndex a s) v } := by
  simp [eramRead, eramWrite, h, hk, Nat.not_le_of_lt hb]

end

/-- Settles O48: each mapper's write in numbers, then the four ways external RAM answers. -/
theorem mapperWritesAndExternalRam : Obligations.MapperWritesAndExternalRam := by
  refine ⟨fun m a v ha => ⟨rfl, ?_, ?_, ?_⟩, fun s a v ha ha' hd => ?_⟩
  · show _ ∧ _
    simp only [Mapper.write, mbc1Write_eq, mbc1Recompute_extRamEnabled, mbc1Recompute_byte2000, mbc1Recompute_byte4000,
      mbc1Recompute_bankMode, ← ramEnableValue_eq]
    exact ⟨rfl, mbc1Store_byte2000 a v m, mbc1Store_byte4000 a v m, rfl, mbc1Recompute_romBank _, mbc1Recompute_extRamBank _⟩
  · rw [← ramEnableValue_eq, ← mbc2Bank_eq]
    rfl
  · rw [← ramEnableValue_eq, ← mbc3Bank_eq, ← mbc3RamBank_eq]
    rfl
  · have hr := region_eram ha ha'
    rw [busRead_open (gateOpen_inactive hd), busWrite_open v (gateOpen_inactive hd), regionRead, regionWrite, hr]
    refine ⟨fun h => eram_disabled v h, fun h hk => eram_mbc2 v h hk, fun h hk hb => eram_beyond v h hk ?_, fun h hk hb => ?_⟩
    · rwa [eramIndex_banked hk]
    · rw [← eramIndex_banked hk a] at hb ⊢
      exact eram_inside v h hk hb

end Sys2Proof.Machine
end

section
/-! PROOF. Plain memory through the bus: a byte written is read back through its cell (R101, R107, R141), and a store leaves every other byte
alone (R203 to R229, R260, R324, R376, R381). -/

namespace Sys2Proof.Machine

open Claims

/-! ### Reading after writing a cell -/

/-- A cell reads as the byte written to it, an MBC2 cell as its low four bits (R141). -/
theorem cellRead_cellWrite_same (p : Bank × Nat) (v : Byte) (s : State) :
    cellRead p (cellWrite p v s) = if p.1 = .eram ∧ s.cart.kind = .mbc2 then v &&& 0x0F else v := by
  obtain ⟨bank, k⟩ := p
  cases bank
  case eram =>
    by_cases hk : s.cart.kind = .mbc2
    · simp [cellRead, cellWrite, hk, BitVec.and_assoc]
    · simp [cellRead, cellWrite, hk]
  all_goals simp [cellRead, cellWrite]

/-- A cell write leaves every other cell alone. -/
theorem cellRead_cellWrite_ne {p q : Bank × Nat} (h : p ≠ q) (v : Byte) (s : State) : cellRead q (cellWrite p v s) = cellRead q s := by
  obtain ⟨b, i⟩ := p
  obtain ⟨c, j⟩ := q
  by_cases hbc : b = c
  · subst hbc
    have hij : j ≠ i := fun e => h (by rw [e])
    cases b <;> simp only [cellRead, cellWrite, Memory.read_write_ne _ _ hij]
  · cases b <;> cases c <;> first | rfl | exact absurd rfl hbc

/-- Settles O38: both addresses read and write their common cell. -/
theorem plainMemoryReadsBackWhatWasWritten : Obligations.PlainMemoryReadsBackWhatWasWritten := by
  intro s a b v bank k ha hb hca hcb
  rw [busWrite_cell ha hca, busRead_cell ((reachable_cellWrite ..).trans hb) ((cellOf_cellWrite ..).trans hcb),
    cellRead_cellWrite_same]

/-! ### A store to plain memory -/

/-- Behind an open DMA gate only the PPU keeps an address from being reached (R105, R106). -/
theorem ppu_locks_of_unreachable {a : Word16} {s : State} (h : reachable a s = false) (hg : dmaAllows (region a) s = true) :
    (region a = .vram ∧ s.ppu.locksVram = true) ∨ (region a = .oam ∧ s.ppu.locksOam = true) := by
  simpa only [reachable, hg, Bool.true_and, Bool.and_eq_false_iff, Bool.not_eq_false', Bool.and_eq_true, beq_iff_eq] using h

/-- What is stored to an address that cannot be reached now is dropped (R103 to R106). -/
theorem busWrite_unreachable {a : Word16} {s : State} (h : reachable a s = false) (v : Byte) : busWrite a v s = s := by
  unfold busWrite
  split
  next hg =>
    obtain ⟨hr, hl⟩ | ⟨hr, hl⟩ := ppu_locks_of_unreachable h hg <;> rw [regionWrite, hr] <;> exact if_pos hl
  · rfl

/-- An address that cannot be reached now reads as 0xFF (R102, R104 to R106). -/
theorem busRead_unreachable {a : Word16} {s : State} (h : reachable a s = false) : busRead a s = 0xFF := by
  unfold busRead
  split
  next hg =>
    obtain ⟨hr, hl⟩ | ⟨hr, hl⟩ := ppu_locks_of_unreachable h hg <;> rw [regionRead, hr] <;> exact if_pos hl
  · rfl

/-- External RAM that holds no plain byte at an address is disabled, or ends below it (R132, R141). -/
theorem cellOf_eram_none {b : Word16} {s : State} (hr : region b = .eram) (h : cellOf b s = none) :
    s.mapper.extRamEnabled = false ∨
      s.mapper.extRamEnabled = true ∧ s.cart.kind ≠ .mbc2 ∧ s.cart.extRamSize ≤ eramIndex b s := by
  simp only [cellOf, hr, ite_eq_right_iff, reduceCtorEq, imp_false, Bool.and_eq_true, Bool.or_eq_true, decide_eq_true_eq] at h
  cases he : s.mapper.extRamEnabled with
  | false => exact .inl rfl
  | true => exact .inr ⟨rfl, fun hk => h ⟨he, .inl hk⟩, Nat.le_of_not_lt fun hi => h ⟨he, .inr hi⟩⟩

/-- A cell write leaves alone what decides where an address leads: the mapper, the cartridge and the DMA gate. -/
@[simp] theorem cellWrite_mapper (p : Bank × Nat) (v : Byte) (s : State) : (cellWrite p v s).mapper = s.mapper := by
  obtain ⟨bank, k⟩ := p
  cases bank <;> rfl

@[simp] theorem cellWrite_cart (p : Bank × Nat) (v : Byte) (s : State) : (cellWrite p v s).cart = s.cart := by
  obtain ⟨bank, k⟩ := p
  cases bank <;> rfl

@[simp] theorem dmaAllows_cellWrite (r : Region) (p : Bank × Nat) (v : Byte) (s : State) : dmaAllows r (cellWrite p v s) = dmaAllows r s := by
  obtain ⟨bank, k⟩ := p
  cases bank <;> rfl

theorem eramIndex_cellWrite (b : Word16) (p : Bank × Nat) (v : Byte) (s : State) : eramIndex b (cellWrite p v s) = eramIndex b s := by
  simp only [eramIndex, cellWrite_mapper, cellWrite_cart]

/-- External RAM that is disabled, or ends below the address, reads alike after a cell write. -/
theorem eramRead_cellWrite_none {b : Word16} {s : State} (hr : region b = .eram) (h : cellOf b s = none) (p : Bank × Nat) (v : Byte) :
    eramRead b (cellWrite p v s) = eramRead b s := by
  obtain he | ⟨he, hk, hb⟩ := cellOf_eram_none hr h
  · rw [(eram_disabled v he).1, (eram_disabled v (by rwa [cellWrite_mapper])).1]
  · rw [(eram_beyond v he hk hb).1, (eram_beyond v (by rwa [cellWrite_mapper]) (by rwa [cellWrite_cart])
      (by rwa [cellWrite_cart, eramIndex_cellWrite])).1]

/-- Outside plain memory a read sees no cell (R102). -/
theorem busRead_cellWrite_none {b : Word16} {s : State} (h : cellOf b s = none) (p : Bank × Nat) (v : Byte) :
    busRead b (cellWrite p v s) = busRead b s := by
  have key : regionRead b (cellWrite p v s) = regionRead b s := by
    unfold regionRead
    cases hr : region b
    case eram => exact eramRead_cellWrite_none hr h p v
    case vram | wram0 | wramN | echo | oam | hram => simp [cellOf, hr] at h
    all_goals
      obtain ⟨bank, k⟩ := p
      cases bank <;> rfl
  rw [busRead, busRead, dmaAllows_cellWrite, key]

/-- A cell write leaves the reads of every address that names another cell, or none, as they were. -/
theorem busRead_cellWrite_ne {b : Word16} {s : State} {p : Bank × Nat} (h : cellOf b s ≠ some p) (v : Byte) :
    busRead b (cellWrite p v s) = busRead b s := by
  cases hb : cellOf b s with
  | none => exact busRead_cellWrite_none hb p v
  | some q =>
    cases hr : reachable b s with
    | false => rw [busRead_unreachable hr, busRead_unreachable ((reachable_cellWrite ..).trans hr)]
    | true =>
      rw [busRead_cell hr hb, busRead_cell ((reachable_cellWrite ..).trans hr) ((cellOf_cellWrite ..).trans hb)]
      exact cellRead_cellWrite_ne (fun e => h (by rw [hb, e])) v s

/-- A store to plain memory moves no address to another cell. -/
theorem cellOf_busWrite {a : Word16} {s : State} (h : cellOf a s ≠ none) (v : Byte) (b : Word16) :
    cellOf b (busWrite a v s) = cellOf b s := by
  obtain ⟨p, hp⟩ := Option.ne_none_iff_exists'.mp h
  cases hr : reachable a s with
  | false => rw [busWrite_unreachable hr]
  | true => rw [busWrite_cell hr hp, cellOf_cellWrite]

/-- A store to plain memory leaves the reads of every address that does not name its cell as they were. -/
theorem busRead_busWrite_ne {a b : Word16} {s : State} (h : cellOf a s ≠ none) (hab : cellOf a s ≠ cellOf b s) (v : Byte) :
    busRead b (busWrite a v s) = busRead b s := by
  obtain ⟨p, hp⟩ := Option.ne_none_iff_exists'.mp h
  cases hr : reachable a s with
  | false => rw [busWrite_unreachable hr]
  | true =>
    rw [busWrite_cell hr hp]
    exact busRead_cellWrite_ne (fun e => hab (hp.trans e.symm)) v

/-! ### Stores at listed addresses -/

/-- States reached by changing the CPU and writing bytes at the addresses of a list. -/
inductive StoresAt (as : List Word16) (s : State) : State → Prop where
  | refl : StoresAt as s s
  | cpu {t : State} (g : Cpu → Cpu) (h : StoresAt as s t) : StoresAt as s (t.mapCpu g)
  | write {t : State} {a : Word16} (v : Byte) (ha : a ∈ as) (h : StoresAt as s t) : StoresAt as s (busWrite a v t)

/-- Stores to plain memory move no address to another cell, and leave the reads of every address of another cell as they were. -/
theorem StoresAt.keeps {as : List Word16} {s t : State} (h : StoresAt as s t) (hp : ∀ a ∈ as, cellOf a s ≠ none) :
    (∀ b, cellOf b t = cellOf b s) ∧ ∀ b, (∀ a ∈ as, cellOf a s ≠ cellOf b s) → busRead b t = busRead b s := by
  induction h with
  | refl => exact ⟨fun _ => rfl, fun _ _ => rfl⟩
  | cpu g _ ih => exact ih
  | @write t a v ha _ ih =>
    obtain ⟨hc, hread⟩ := ih
    have hplain : cellOf a t ≠ none := by rw [hc]; exact hp a ha
    refine ⟨fun b => (cellOf_busWrite hplain v b).trans (hc b), fun b hb => ?_⟩
    rw [busRead_busWrite_ne hplain (by rw [hc, hc]; exact hb a ha), hread b hb]

theorem StoresAt.setFlags {as : List Word16} {s t : State} (h : StoresAt as s t) (f : Byte) : StoresAt as s (setFlags f t) := h.cpu _
theorem StoresAt.jump {as : List Word16} {s t : State} (h : StoresAt as s t) (a : Word16) : StoresAt as s (jump a t) := h.cpu _

theorem store_storesAt {a : Word16} {as : List Word16} (v : Byte) (s : State) (h : a ∈ as) : StoresAt as s (busWrite a v s) := .write v h .refl

section
variable (s : State)

theorem writeHl_storesAt (v : Byte) : StoresAt [s.cpu.hl] s (writeOp8 .mHL v s) := store_storesAt v s (List.mem_singleton_self _)
theorem loadHl_storesAt (src : Op8) : StoresAt [s.cpu.hl] s (opLoad .mHL src s) := writeHl_storesAt s _
theorem modifyHl_storesAt (g : Byte → Alu) : StoresAt [s.cpu.hl] s (opModify .mHL g s) := (writeHl_storesAt s _).setFlags _
theorem resHl_storesAt (b : Nat) : StoresAt [s.cpu.hl] s (opRes b .mHL s) := writeHl_storesAt s _
theorem setHl_storesAt (b : Nat) : StoresAt [s.cpu.hl] s (opSet b .mHL s) := writeHl_storesAt s _
theorem storeA_storesAt (a : Word16) : StoresAt [a] s (opStoreA a s) := store_storesAt _ s (List.mem_singleton_self _)
theorem storeAMove_storesAt (d a : Word16) : StoresAt [a] s (opMoveHl d (opStoreA a s)) := (storeA_storesAt s a).cpu _

/-- LD (nn),SP stores at nn and nn + 1 (R221). -/
theorem storePair_storesAt (a b : Word16) (u v : Byte) : StoresAt [a, b] s (busWrite b u (busWrite a v s)) :=
  .write u (by simp) (.write v (by simp) .refl)

/-- `Push16` stores at SP - 1 and SP - 2 (R229). -/
theorem push16_storesAt (w : Word16) : StoresAt [s.cpu.sp - 1, s.cpu.sp - 2] s (push16 w s) := by
  rw [push16_eq]
  exact .cpu (fun _ => { s.cpu with sp := s.cpu.sp - 2 }) (.write _ (by simp) (.write _ (by simp) .refl))

theorem opCall_storesAt (t : Word16) : StoresAt [s.cpu.sp - 1, s.cpu.sp - 2] s (opCall t s) := (push16_storesAt s _).jump t

theorem callWhen_storesAt (cc : Cond) (t : Word16) : StoresAt [s.cpu.sp - 1, s.cpu.sp - 2] s (whenCond cc (opCall t) s) := by
  unfold whenCond
  split
  · exact opCall_storesAt s t
  · exact .refl

end

/-! ### The storing forms -/

/-- A row of the tables of storing forms: what the form answers is reached by stores at the row's addresses. -/
def StoreRow (p : Instr × (State → List Word16)) : Prop := ∀ s, ∃ t, exec p.1 s = .next t ∧ StoresAt (p.2 s) s t

theorem storeFormsHl_rows (n : Byte) : ∀ p ∈ storeFormsHl n, StoreRow p := by
  intro p hp s
  fin_cases hp
  case _ | _ | _ | _ | _ | _ | _ => exact ⟨_, rfl, loadHl_storesAt s _⟩
  · exact ⟨_, rfl, writeHl_storesAt s n⟩
  case _ | _ => exact ⟨_, rfl, storeAMove_storesAt s _ _⟩
  case _ | _ => exact ⟨_, rfl, modifyHl_storesAt s _⟩

theorem storeFormsCb_rows : ∀ p ∈ storeFormsCb, StoreRow p := by
  intro p hp s
  fin_cases hp <;> exact ⟨_, rfl, modifyHl_storesAt s _⟩

theorem storeFormsBits_rows : ∀ p ∈ storeFormsBits, StoreRow p := by
  intro p hp s
  fin_cases hp
  case _ | _ | _ | _ | _ | _ | _ | _ => exact ⟨_, rfl, resHl_storesAt s _⟩
  all_goals exact ⟨_, rfl, setHl_storesAt s _⟩

theorem storeFormsA_rows (nn : Word16) (n : Byte) : ∀ p ∈ storeFormsA nn n, StoreRow p := by
  intro p hp s
  fin_cases hp
  case _ | _ | _ | _ | _ => exact ⟨_, rfl, storeA_storesAt s _⟩
  · exact ⟨_, rfl, storePair_storesAt s nn (nn + 1) _ _⟩

theorem storeFormsStack_rows (nn : Word16) : ∀ p ∈ storeFormsStack nn, StoreRow p := by
  intro p hp s
  fin_cases hp
  case _ | _ | _ | _ => exact ⟨_, rfl, push16_storesAt s _⟩
  all_goals exact ⟨_, rfl, opCall_storesAt s _⟩

theorem storeFormsCall_rows (nn : Word16) : ∀ p ∈ storeFormsCall nn, StoreRow p := by
  intro p hp s
  fin_cases hp <;> exact ⟨_, rfl, callWhen_storesAt s _ nn⟩

/-- Settles O39: every form stores at its row's addresses only, and a store to plain memory leaves every other byte alone. -/
theorem storingFormsLeaveOtherBytesAlone : Obligations.StoringFormsLeaveOtherBytesAlone := by
  intro nn n p hp s t h hplain
  have hrow : StoreRow p := by
    simp only [List.mem_append, or_assoc] at hp
    obtain hp | hp | hp | hp | hp | hp := hp
    · exact storeFormsHl_rows n p hp
    · exact storeFormsCb_rows p hp
    · exact storeFormsBits_rows p hp
    · exact storeFormsA_rows nn n p hp
    · exact storeFormsStack_rows nn p hp
    · exact storeFormsCall_rows nn p hp
  obtain ⟨u, hu, hst⟩ := hrow s
  rw [hu] at h
  cases h
  exact (hst.keeps hplain).2

end Sys2Proof.Machine
end

section
/-! PROOF. Creating a machine from an image: the table of types, the RAM size, and what is refused (R151 to R154, R698, R699). -/

namespace Sys2Proof.Machine

open Claims

/-! ### The tables of types and RAM sizes (R151, R153) -/

/-- The model's type table has the statement's row for a code; only MBC2's `hasRam` is not asked (R151). -/
theorem typeRow_lookup : ∀ r ∈ typeRows, ∃ type, cartTypeTable.lookup r.code = some type ∧ type.kind = r.kind ∧
    type.hasBattery = r.battery ∧ (r.kind ≠ .mbc2 → type.hasRam = r.ram) ∧ (r.ram = true → r.kind ≠ .mbc2) := by
  intro r hr
  fin_cases hr <;> exact ⟨_, rfl, rfl, rfl, by decide, by decide⟩

/-- The model's type table has no other code. -/
theorem lookup_typeRow {code : Nat} {type : CartType} (h : cartTypeTable.lookup code = some type) : ∃ r ∈ typeRows, r.code = code := by
  obtain ⟨l, m, hs, -⟩ := List.lookup_eq_some_iff.1 h
  have key : ∀ p ∈ cartTypeTable, ∃ r ∈ typeRows, r.code = p.1 := by decide
  exact key (code, type) (by rw [hs]; simp)

/-- The model's RAM-size table holds the sizes of R153. -/
theorem ramSize_lookup {code size : Nat} (h : (code, size) ∈ ramSizes) : ramSizeTable.lookup code = some size := by
  have key : ∀ p ∈ ramSizes, ramSizeTable.lookup p.1 = some p.2 := by decide
  exact key (code, size) h

/-- The RAM-size table ends at code 5. -/
theorem ramSize_unknown {code : Nat} (h : 5 < code) : ramSizeTable.lookup code = none := by
  refine List.lookup_eq_none_iff.mpr fun p hp => bne_iff_ne.mpr ?_
  have key : ∀ p ∈ ramSizeTable, p.1 ≤ 5 := by decide
  have := key p hp
  omega

theorem extRamSizeOf_mbc2 {type : CartType} (h : type.kind = .mbc2) (code : Byte) : extRamSizeOf type code = .ok 512 := by
  rw [extRamSizeOf, if_pos h]

theorem extRamSizeOf_noRam {type : CartType} (h : type.kind ≠ .mbc2) (hr : type.hasRam = false) (code : Byte) :
    extRamSizeOf type code = .ok 0 := by
  rw [extRamSizeOf, if_neg h, if_neg (by simp [hr])]

theorem extRamSizeOf_ram {type : CartType} {code : Byte} {size : Nat} (h : type.kind ≠ .mbc2) (hr : type.hasRam = true)
    (hs : (code.toNat, size) ∈ ramSizes) : extRamSizeOf type code = .ok size := by
  rw [extRamSizeOf, if_neg h, if_pos hr, ramSize_lookup hs]

theorem extRamSizeOf_unknown {type : CartType} {code : Byte} (h : type.kind ≠ .mbc2) (hr : type.hasRam = true) (hc : 5 < code.toNat) :
    extRamSizeOf type code = .error (.unknownRamSize code) := by
  rw [extRamSizeOf, if_neg h, if_pos hr, ramSize_unknown hc]

/-! ### Images that are refused, and images that are accepted (R154, R698) -/

/-- An image that fails a check for every type creates nothing. -/
theorem create_refuses {image : List Byte} (init : InitMem) (save : Option (List Byte)) (h : ∀ type, ¬HeaderOk image type) :
    ∃ e, create image init save = .error e := by
  obtain ⟨e, he⟩ := ofImage_refuses h
  exact ⟨e, create_error he init save⟩

/-- Neither does an image whose type has RAM of an unknown size. -/
theorem create_refuses_ramSize {image : List Byte} (init : InitMem) (save : Option (List Byte)) {r : TypeRow} (hr : r ∈ typeRows)
    (hcode : r.code = (image.getD 0x147 0).toNat) (hram : r.ram = true) (hsize : 5 < (image.getD 0x149 0).toNat) :
    ∃ e, create image init save = .error e := by
  obtain ⟨type, hlook, hkind, -, hhas, hne⟩ := typeRow_lookup r hr
  have hext := extRamSizeOf_unknown (type := type) (hkind ▸ hne hram) ((hhas (hne hram)).trans hram) hsize
  rcases ofImage_cases image with ⟨e, he, -⟩ | ⟨q, hq, ⟨e, -, he⟩ | ⟨size, hok, -⟩⟩
  · exact ⟨e, create_error he init save⟩
  · exact ⟨e, create_error he init save⟩
  · obtain rfl : type = q := Option.some.inj (hlook.symm.trans (hcode ▸ hq.typeCode))
    exact nomatch hext.symm.trans hok

/-- A declared size of R152 that is the image's length makes the two checks of the length pass (R154). -/
theorem headerOk_of_declared {image : List Byte} {type : CartType} (ht : cartTypeTable.lookup (image.getD 0x147 0).toNat = some type)
    (hc : (image.getD 0x148 0).toNat ≤ 8) (hd : 32768 * 2 ^ (image.getD 0x148 0).toNat = image.length) : HeaderOk image type where
  romMin := by rw [← hd]; exact Nat.le_mul_of_pos_right _ (Nat.two_pow_pos _)
  romBanks := by rw [← hd]; exact Nat.mod_eq_zero_of_dvd (Dvd.dvd.mul_right (by decide) _)
  typeCode := ht
  romCode := hc
  declared := hd

/-- An accepted image gives the cartridge of its header (R151 to R153, R698). -/
theorem ofImage_ok {image : List Byte} {type : CartType} {size : Nat} (h : HeaderOk image type)
    (hs : extRamSizeOf type (image.getD 0x149 0) = .ok size) :
    Cartridge.ofImage image = .ok ⟨Memory.ofBytes image, image.length, type.kind, size, type.hasBattery⟩ := by
  rcases ofImage_of_headerOk h with ⟨e, he, -⟩ | ⟨size', hs', hok⟩
  · exact nomatch hs.symm.trans he
  · obtain rfl : size = size' := Except.ok.inj (hs.symm.trans hs')
    exact hok

/-- A save goes into external RAM only (R699). -/
theorem withSave_eq (cart : Cartridge) (save : Option (List Byte)) (init : InitMem) :
    init.withSave cart save = { init with eram := (init.withSave cart save).eram } := by
  unfold InitMem.withSave
  split
  · rfl
  · split <;> rfl

/-- A save of the RAM's size on a cartridge with a battery fills external RAM (R699). -/
theorem withSave_eram {cart : Cartridge} {bytes : List Byte} (hb : cart.hasBattery = true) (hl : bytes.length = cart.extRamSize)
    (init : InitMem) : (init.withSave cart (some bytes)).eram = Memory.ofBytes bytes := by
  rw [InitMem.withSave, if_pos ⟨hb, hl⟩]

/-- The RAM size that a row of R151 and a RAM-size code give (R153). -/
theorem extRamSizeOf_row {r : TypeRow} {type : CartType} {code : Byte} {size : Nat} (hkind : type.kind = r.kind)
    (hhas : r.kind ≠ .mbc2 → type.hasRam = r.ram) (hmbc2 : r.kind = .mbc2 → size = 512) (hnone : r.kind ≠ .mbc2 → r.ram = false → size = 0)
    (hram : r.ram = true → (code.toNat, size) ∈ ramSizes) : extRamSizeOf type code = .ok size := by
  by_cases hk : r.kind = .mbc2
  · rw [hmbc2 hk]
    exact extRamSizeOf_mbc2 (hkind.trans hk) code
  · cases hr : r.ram with
    | false =>
      rw [hnone hk hr]
      exact extRamSizeOf_noRam (hkind ▸ hk) ((hhas hk).trans hr) code
    | true => exact extRamSizeOf_ram (hkind ▸ hk) ((hhas hk).trans hr) (hram hr)

/-- A created machine is the reset state of a cartridge that its image's header gives. -/
theorem create_inv {image : List Byte} {init : InitMem} {save : Option (List Byte)} {s : State} (h : create image init save = .ok s) :
    ∃ type size, HeaderOk image type ∧ extRamSizeOf type (image.getD 0x149 0) = .ok size ∧
      s.cart = ⟨Memory.ofBytes image, image.length, type.kind, size, type.hasBattery⟩ ∧ ∃ m, s = State.resetWith s.cart m := by
  rcases ofImage_cases image with ⟨e, he, -⟩ | ⟨type, hh, ⟨e, -, he⟩ | ⟨size, hs, hok⟩⟩
  · exact nomatch (create_error he init save).symm.trans h
  · exact nomatch (create_error he init save).symm.trans h
  · obtain rfl := Except.ok.inj ((create_ok hok init save).symm.trans h)
    exact ⟨type, size, hh, hs, rfl, _, rfl⟩

/-- Settles O50: each failed check refuses the image; an image that passes them all gives the cartridge of its row. -/
theorem creationRefusesBadImages : Obligations.CreationRefusesBadImages := by
  intro image init save
  have refuses := create_refuses (image := image) init save
  refine ⟨fun h => refuses fun _ k => ?_, fun h => refuses fun _ k => h k.romBanks, fun h => refuses fun _ k => ?_,
    fun h => refuses fun _ k => ?_, fun h => refuses fun _ k => h k.declared,
    fun r hr hcode hram hsize => create_refuses_ramSize init save hr hcode hram hsize,
    fun r hr (hcode : r.code = (image.getD 0x147 0).toNat) hrom hdecl size hmbc2 hnone hram => ?_, fun s h => ?_⟩
  · exact absurd k.romMin (Nat.not_le_of_lt h)
  · obtain ⟨r, hr, hcode⟩ := lookup_typeRow k.typeCode
    exact h r hr hcode
  · exact absurd k.romCode (Nat.not_le_of_lt h)
  · obtain ⟨type, hlook, hkind, hbat, hhas, -⟩ := typeRow_lookup r hr
    have hok := ofImage_ok (headerOk_of_declared (hcode ▸ hlook) hrom hdecl) (extRamSizeOf_row hkind hhas hmbc2 hnone hram)
    refine ⟨_, _, create_ok hok init save, rfl, hkind, rfl, hbat, fun k _ => Memory.read_ofBytes image k, withSave_eq _ _ _, ?_, ?_⟩
    · rintro rfl
      rfl
    · rintro bytes rfl hb hl k -
      rw [withSave_eram (hbat.trans hb) hl]
      exact Memory.read_ofBytes bytes k
  · obtain ⟨type, size, hh, hs, hcart, hm⟩ := create_inv h
    refine ⟨⟨fun hk => ?_, ?_, ?_⟩, ?_, fun k _ => ?_, hm⟩
    · rw [hcart] at hk ⊢
      exact Except.ok.inj (hs.symm.trans (extRamSizeOf_mbc2 hk _))
    · rw [hcart]; exact hh.romMin
    · rw [hcart]; exact hh.romBanks
    · rw [hcart]
    · rw [hcart]; exact Memory.read_ofBytes image k

end Sys2Proof.Machine
end

section
/-! PROOF. The encoding: decoding and encoding are inverse to each other (R170, R171, R176, R178 to R180); the eleven invalid opcodes
(R183, R426, R430). -/

namespace Sys2Proof.Machine

open Claims

/-! ### Decoding what the encoder gives -/

/-- A byte followed by as many operand bytes as its cell takes decodes to the cell's instruction, whatever comes after them. -/
theorem decode_append {b0 : Byte} {operands : List Byte} (h : operands.length + 1 = (opEntry b0).length) (rest : List Byte) :
    decode (b0 :: operands ++ rest) = .ok ((opEntry b0).instr (operands.getD 0 0) (operands.getD 1 0), rest) := by
  cases hc : opEntry b0 with rw [hc] at h
  | op i =>
    obtain rfl := List.length_eq_zero_iff.mp (Nat.succ.inj h)
    exact decode_op hc rest
  | n8 f | e8 f | x8 f | cb =>
    obtain ⟨n, rfl⟩ := List.length_eq_one_iff.mp (Nat.succ.inj h)
    simp [decode, hc, OpEntry.length, OpEntry.instr]
  | n16 f =>
    obtain ⟨low, high, rfl⟩ := List.length_eq_two.mp (Nat.succ.inj h)
    simp [decode, hc, OpEntry.length, OpEntry.instr]

/-- Settles O29: an instruction's first byte selects the cell that makes it from its operand bytes; a 16-bit immediate is put together
from its two halves. -/
theorem decodeOfEncodeIsTheInstruction : Obligations.DecodeOfEncodeIsTheInstruction := by
  intro i rest
  cases i
  case ld_BC_nn nn | ld_DE_nn nn | ld_HL_nn nn | ld_SP_nn nn | ld_mnn_SP nn | ld_mnn_A nn | ld_A_mnn nn | jp_nn nn | jp_NZ_nn nn |
      jp_Z_nn nn | jp_NC_nn nn | jp_C_nn nn | call_nn nn | call_NZ_nn nn | call_Z_nn nn | call_NC_nn nn | call_C_nn nn =>
    exact decode_n16 rfl nn rest
  all_goals exact decode_append rfl rest

/-- Settles O31: each word is the encoding of its instruction. -/
theorem sampleWordsDecode : Obligations.SampleWordsDecode := by
  have h (i : Instr) : decode (encode i ++ []) = .ok (i, []) := decodeOfEncodeIsTheInstruction i []
  exact ⟨h .ld_C_B, h (.ld_A_n 0x3C), h (.ld_DE_nn 0x1234), h .sbc_A_mHL, h (.xor_n 0x0F), h (.jr_Z_e 0xFC), h (.call_C_nn 0x3000),
    h .rst_28h, h .bit_7_H, h .rr_mHL, h .halt, h .pop_AF⟩

/-! ### Encoding what the decoder reads -/

/-- The bytes that a cell's format gives its instruction (R171): a 16-bit immediate by its two halves, low byte first (R176). -/
def formatBytes (cell : OpEntry) (b0 b1 b2 : Byte) : List Byte :=
  match cell with
  | .op _ => [b0]
  | .n8 _ | .e8 _ | .x8 _ | .cb => [b0, b1]
  | .n16 _ => [b0, lowByte (b2 ++ b1), highByte (b2 ++ b1)]

theorem formatBytes_eq_take (cell : OpEntry) (b0 b1 b2 : Byte) : formatBytes cell b0 b1 b2 = [b0, b1, b2].take cell.length := by
  cases cell <;> simp [formatBytes, OpEntry.length]

/-- Each cell of the CB-prefixed map encodes to its place there (R179). -/
theorem encode_cbEntry : ∀ b : Byte, encode (cbEntry b) = [0xCB, b] := by decide

/-- Each cell of the unprefixed map encodes to its place there, in the cell's format (R178). -/
theorem encode_opEntry_instr (b0 b1 b2 : Byte) : encode ((opEntry b0).instr b1 b2) = formatBytes (opEntry b0) b0 b1 b2 := by
  obtain ⟨k⟩ := b0
  fin_cases k
  -- the goals stand in the order of the first byte, from 0x00: this one is 0xCB (R179)
  on_goal 204 => exact encode_cbEntry b1
  all_goals rfl

/-- Settles O30: the bytes read are those of the cell's format. -/
theorem encodeOfDecodeIsTheBytes : Obligations.EncodeOfDecodeIsTheBytes := fun b0 b1 b2 =>
  (encode_opEntry_instr b0 b1 b2).trans (formatBytes_eq_take _ b0 b1 b2)

/-- The encoding of what the decoder reads begins with the first byte. -/
theorem encode_decodeBytes_head (b0 b1 b2 : Byte) : (encode (decodeBytes b0 b1 b2).1).head? = some b0 := by
  have hlen : (decodeBytes b0 b1 b2).2 ≠ 0 := Nat.one_le_iff_ne_zero.mp (opEntry_length b0).1
  rw [encodeOfDecodeIsTheBytes, List.head?_take, if_neg hlen, List.head?_cons]

/-! ### The invalid opcodes -/

/-- What a row of the invalid opcodes says of the model: its cell, its encoding, its meaning. -/
theorem invalidRow_meaning : ∀ r ∈ invalidRows, r.bytes = [r.arg] ∧ encode r.instr = [r.arg] ∧ opEntry r.arg = .op r.instr ∧
    ∀ s, exec r.instr s = .fault (.locked r.arg) := by
  intro r hr
  fin_cases hr <;> exact ⟨rfl, rfl, rfl, fun _ => rfl⟩

theorem mem_invalidOpcodes {b : Byte} : b ∈ invalidOpcodes ↔ ∃ r ∈ invalidRows, r.arg = b :=
  List.mem_map (f := Row.arg) (l := invalidRows)

theorem wellFormed_eq_false {i : Instr} : i.wellFormed = false ↔ ∃ r ∈ invalidRows, r.instr = i := by
  rw [Instr.wellFormed, Bool.not_eq_false', List.contains_iff_mem]
  exact List.mem_map (f := Row.instr) (l := invalidRows)

/-- A cell without operands is what the decoder reads, whatever the two bytes after the first. -/
theorem decodeBytes_op {b0 : Byte} {i : Instr} (h : opEntry b0 = .op i) (b1 b2 : Byte) : (decodeBytes b0 b1 b2).1 = i := by
  rw [decodeBytes, h, OpEntry.instr]

/-- The decoder reads an ill-formed instruction from the invalid opcodes only: another byte's encoding begins otherwise. -/
theorem decodeBytes_illFormed (b0 b1 b2 : Byte) : (decodeBytes b0 b1 b2).1.wellFormed = false ↔ b0 ∈ invalidOpcodes := by
  rw [wellFormed_eq_false, mem_invalidOpcodes]
  refine exists_congr fun r => and_congr_right fun hr => ?_
  obtain ⟨-, henc, hcell, -⟩ := invalidRow_meaning r hr
  constructor
  · intro hi
    have hhead := encode_decodeBytes_head b0 b1 b2
    rw [← hi, henc] at hhead
    exact Option.some.inj hhead
  · rintro rfl
    exact (decodeBytes_op hcell b1 b2).symm

/-- A running machine locks up at a cell whose instruction does (R426, R430). -/
theorem step_locks {s : State} {i : Instr} {op : Byte} (hrun : Running s) (hcell : opEntry (busRead s.cpu.pc s) = .op i)
    (hexec : ∀ t, exec i t = .fault (.locked op)) : step s = .fault (.locked op) := by
  have hi : (fetched s).1 = i := decodeBytes_op hcell _ _
  rw [step_running hrun, hi]
  exact runInstr_fault (hexec _)

theorem step_of_locked {s : State} {op : Byte} (h : s.cpu.locked = some op) : step s = .fault (.locked op) := by
  rw [step, runStep, h]

/-- Settles O27: each row by its cell and its meaning; as an operand the byte is read like any other. -/
theorem invalidOpcodesLockUp : Obligations.InvalidOpcodesLockUp := by
  refine ⟨fun r hr => ?_, fun s op => step_of_locked, decodeBytes_illFormed⟩
  obtain ⟨hbytes, henc, hcell, hexec⟩ := invalidRow_meaning r hr
  refine ⟨henc.trans hbytes.symm, ?_, hexec, fun s hrun hpc => step_locks hrun (hpc ▸ hcell) hexec, decode_n8 rfl r.arg []⟩
  rw [hbytes]
  exact decode_op hcell []

end Sys2Proof.Machine
end

section
/-! PROOF. What a row of a table says of the encoding and the cost (R170, R181, R182); the loads, PUSH and POP (R200 to R235); the returns
(R378 to R380). -/

namespace Sys2Proof.Machine

open Claims

/-! ### A row's encoding and cost -/

theorem decode_encode (i : Instr) : decode (encode i) = .ok (i, []) := by
  simpa using decodeOfEncodeIsTheInstruction i []

/-- A row without a condition needs its encoding and its entry in the cost table only (R181). -/
theorem row_encoded {α : Type} {r : Row α} (henc : encode r.instr = r.bytes) (hbase : baseCycles r.bytes = r.cycles)
    (hcond : conditionOf r.bytes = none) : r.Encoded := by
  refine ⟨henc, henc ▸ decode_encode r.instr, fun s => ?_⟩
  rw [cost, takenCycles, henc, hbase, hcond]
  rfl

theorem holds_iff {cc : Cond} {c : Cpu} : Holds cc c ↔ c.cond cc = true := by
  cases cc <;> simp [Holds, Cpu.cond]

/-- A row with a condition adds its extra cost when the condition holds (R182). -/
theorem condRow_encoded {r : CondRow} {extra : Nat} (henc : encode r.instr = r.bytes) (hbase : baseCycles r.bytes = r.cycles)
    (hcond : conditionOf r.bytes = some (r.cc, extra)) (htaken : r.cycles + extra = r.taken) : r.Encoded := by
  have hcost (s : State) : cost r.instr s = r.cycles + if s.cpu.cond r.cc then extra else 0 := by
    rw [cost, takenCycles, henc, hbase, hcond]
  refine ⟨henc, henc ▸ decode_encode r.instr, fun s => ⟨fun h => ?_, fun h => ?_⟩⟩
  · rw [hcost, if_pos (holds_iff.mp h), htaken]
  · rw [hcost, if_neg (mt holds_iff.mpr h), Nat.add_zero]

/-- A conditional operation runs when its condition holds and changes nothing when it does not (R370). -/
theorem whenCond_holds (cc : Cond) (g : State → State) (s : State) :
    (Holds cc s.cpu → whenCond cc g s = g s) ∧ (¬Holds cc s.cpu → whenCond cc g s = s) :=
  ⟨fun h => whenCond_true g (holds_iff.mp h), fun h => whenCond_false g (Bool.eq_false_iff.mpr (mt holds_iff.mpr h))⟩

/-! ### The shared operations in closed form -/

theorem opLoad_regOp (dst src : Reg8) (s : State) :
    opLoad (regOp dst) (regOp src) s = { s with cpu := s.cpu.setReg dst (s.cpu.reg src) } := by
  rw [opLoad, readOp8_regOp, writeOp8_regOp]

theorem opLoad_atHl (dst : Reg8) (s : State) : opLoad (regOp dst) .mHL s = { s with cpu := s.cpu.setReg dst (atHl s) } :=
  writeOp8_regOp dst _ s

/-- A store leaves HL as it was, so HL moves from its old value (R215, R217). -/
theorem opMoveHl_opStoreA (d a : Word16) (s : State) :
    opMoveHl d (opStoreA a s) = { busWrite a s.cpu.a s with cpu := s.cpu.setHl (s.cpu.hl + d) } := by
  rw [opMoveHl, opStoreA, State.mapCpu, busWrite_cpu]

/-- SP is no half of a pair, so the pair and SP can be written in either order (R229, R231). -/
theorem opPop_eq (r : StackReg) (s : State) :
    opPop r s = { s with cpu := { s.cpu.setStackPair r (popValue s) with sp := s.cpu.sp + 2 } } := by
  cases r <;> rfl

/-- A pair written from two bytes holds them in its halves; AF masks the lower one (R31, R32). -/
theorem Cpu.setStackPair_append (c : Cpu) (hi lo : Byte) :
    c.setStackPair .bc (hi ++ lo) = { c with b := hi, c := lo } ∧ c.setStackPair .de (hi ++ lo) = { c with d := hi, e := lo } ∧
    c.setStackPair .hl (hi ++ lo) = { c with h := hi, l := lo } ∧
    c.setStackPair .af (hi ++ lo) = { c with a := hi, f := lo &&& 0xF0 } := by
  simp [Cpu.setStackPair, Cpu.setBc, Cpu.setDe, Cpu.setHl, Cpu.setAf, flagByte]

/-! ### PUSH and POP -/

theorem pushRow_meaning : ∀ r ∈ pushRows, r.Encoded ∧ ∀ s, exec r.instr s = .next (push16 (s.cpu.stackPair r.arg) s) := by
  intro r hr
  fin_cases hr <;> exact ⟨row_encoded rfl rfl rfl, fun _ => rfl⟩

/-- Settles O7: PUSH is Push16 of its pair, whose two bus writes and change of SP are `push16_eq`. -/
theorem pushStoresHighByteFirst : Obligations.PushStoresHighByteFirst := by
  intro r hr
  obtain ⟨henc, hexec⟩ := pushRow_meaning r hr
  exact ⟨henc, fun s => ⟨(hexec s).trans (congrArg _ (push16_eq _ s)), rfl, rfl, rfl, rfl⟩⟩

theorem popRow_meaning : ∀ r ∈ popRows, r.Encoded ∧ ∀ s, exec r.instr s = .next (opPop r.arg s) := by
  intro r hr
  fin_cases hr <;> exact ⟨row_encoded rfl rfl rfl, fun _ => rfl⟩

theorem exec_pop_AF (s : State) : exec .pop_AF s = .next (opPop .af s) := rfl

/-- Settles O8: POP writes its pair from the two bytes that Pop16 reads; the halves are `setStackPair_append`. -/
theorem popReadsLowByteFirst : Obligations.PopReadsLowByteFirst := by
  refine ⟨fun r hr => ?_, row_encoded rfl rfl rfl, fun s => ?_, Cpu.setStackPair_append⟩
  · obtain ⟨henc, hexec⟩ := popRow_meaning r hr
    exact ⟨henc, fun s => (hexec s).trans (congrArg _ (opPop_eq r.arg s))⟩
  · obtain ⟨-, -, -, haf⟩ := Cpu.setStackPair_append s.cpu (busRead (s.cpu.sp + 1) s) (busRead s.cpu.sp s)
    rw [exec_pop_AF, opPop_eq, popValue, haf]

/-! ### The 8-bit loads and stores -/

theorem loadRow_meaning : ∀ r ∈ loadRowsB ++ loadRowsC ++ loadRowsD ++ loadRowsE ++ loadRowsH ++ loadRowsL ++ loadRowsA,
    r.Encoded ∧ ∀ s, exec r.instr s = .next (opLoad (regOp r.arg.1) (regOp r.arg.2) s) := by
  intro r hr
  fin_cases hr <;> exact ⟨row_encoded rfl rfl rfl, fun _ => rfl⟩

theorem loadImmediateRow_meaning (n : Byte) : ∀ r ∈ loadImmediateRows n,
    r.Encoded ∧ ∀ s, exec r.instr s = .next (writeOp8 (regOp r.arg) n s) := by
  intro r hr
  fin_cases hr <;> exact ⟨row_encoded rfl rfl rfl, fun _ => rfl⟩

theorem loadHlRow_meaning : ∀ r ∈ loadHlRows, r.Encoded ∧ ∀ s, exec r.instr s = .next (opLoad (regOp r.arg) .mHL s) := by
  intro r hr
  fin_cases hr <;> exact ⟨row_encoded rfl rfl rfl, fun _ => rfl⟩

/-- Settles O2: each row is a write of its register operand. -/
theorem registerLoadsWriteOneRegister : Obligations.RegisterLoadsWriteOneRegister := by
  refine ⟨?_, fun n => ?_, ?_⟩
  · simpa only [opLoad_regOp] using loadRow_meaning
  · simpa only [writeOp8_regOp] using loadImmediateRow_meaning n
  · simpa only [opLoad_atHl] using loadHlRow_meaning

/-- Settles O3: each row is a write of the `(HL)` operand, which is one bus write. -/
theorem storesAtHlWriteOneByte : Obligations.StoresAtHlWriteOneByte := by
  intro n r hr
  fin_cases hr <;> exact ⟨row_encoded rfl rfl rfl, fun _ => rfl⟩

theorem loadARow_meaning (nn : Word16) (n : Byte) : ∀ r ∈ loadARows nn n,
    r.Encoded ∧ ∀ s, exec r.instr s = .next (opLoadA (r.arg s) s) := by
  intro r hr
  fin_cases hr <;> exact ⟨row_encoded rfl rfl rfl, fun _ => rfl⟩

theorem storeARow_meaning (nn : Word16) (n : Byte) : ∀ r ∈ storeARows nn n,
    r.Encoded ∧ ∀ s, exec r.instr s = .next (opStoreA (r.arg s) s) := by
  intro r hr
  fin_cases hr <;> exact ⟨row_encoded rfl rfl rfl, fun _ => rfl⟩

/-- Settles O4: each row is the load or the store of A at its address, by definition one write of A or of the bus. -/
theorem accumulatorMemoryLoadsAndStores : Obligations.AccumulatorMemoryLoadsAndStores :=
  fun nn n => ⟨loadARow_meaning nn n, storeARow_meaning nn n⟩

theorem storeMoveRow_meaning : ∀ r ∈ storeMoveRows,
    r.Encoded ∧ ∀ s, exec r.instr s = .next (opMoveHl r.arg (opStoreA s.cpu.hl s)) := by
  intro r hr
  fin_cases hr <;> exact ⟨row_encoded rfl rfl rfl, fun _ => rfl⟩

theorem loadMoveRow_meaning : ∀ r ∈ loadMoveRows,
    r.Encoded ∧ ∀ s, exec r.instr s = .next (opMoveHl r.arg (opLoadA s.cpu.hl s)) := by
  intro r hr
  fin_cases hr <;> exact ⟨row_encoded rfl rfl rfl, fun _ => rfl⟩

/-- Settles O5: the access is the inner operation, so it sees the old HL; a load of A leaves HL by definition, a store by
`opMoveHl_opStoreA`. -/
theorem loadsThatMoveHl : Obligations.LoadsThatMoveHl := by
  refine ⟨fun r hr => ?_, loadMoveRow_meaning⟩
  obtain ⟨henc, hexec⟩ := storeMoveRow_meaning r hr
  exact ⟨henc, fun s => (hexec s).trans (congrArg _ (opMoveHl_opStoreA r.arg _ s))⟩

/-! ### The 16-bit loads -/

theorem loadPairRow_meaning (nn : Word16) : ∀ r ∈ loadPairRows nn, r.Encoded ∧ ∀ s, exec r.instr s = .next (opSetPair r.arg nn s) := by
  intro r hr
  fin_cases hr <;> exact ⟨row_encoded rfl rfl rfl, fun _ => rfl⟩

/-- Settles O6: each load is one write of a pair; LD (nn),SP is its two bus writes by definition. -/
theorem sixteenBitLoads : Obligations.SixteenBitLoads :=
  ⟨loadPairRow_meaning, fun _ => row_encoded rfl rfl rfl, fun _ _ => rfl, row_encoded rfl rfl rfl, fun _ => rfl⟩

/-! ### The returns -/

theorem retCondRow_meaning : ∀ r ∈ retCondRows, r.Encoded ∧ ∀ s, exec r.instr s = .next (whenCond r.cc opRet s) := by
  intro r hr
  fin_cases hr <;> exact ⟨condRow_encoded rfl rfl rfl rfl, fun _ => rfl⟩

/-- Settles O24: RET is Pop16 into PC by definition, RETI that with IME set, RET cc that under its condition. -/
theorem returnsPopThePc : Obligations.ReturnsPopThePc := by
  refine ⟨⟨row_encoded rfl rfl rfl, fun _ => rfl⟩, fun r hr => ?_, row_encoded rfl rfl rfl, fun _ => rfl⟩
  obtain ⟨henc, hexec⟩ := retCondRow_meaning r hr
  refine ⟨henc, fun s => ?_⟩
  obtain ⟨htaken, hnot⟩ := whenCond_holds r.cc opRet s
  exact ⟨fun h => (hexec s).trans (congrArg _ (htaken h)), fun h => (hexec s).trans (congrArg _ (hnot h))⟩

end Sys2Proof.Machine
end

section
/-! PROOF. The 8-bit arithmetic and logic in numbers (R251 to R266): what each ALU result and its flags are, then the rows of each table. -/

namespace Sys2Proof.Machine

open Claims

/-! ### The flag byte in numbers (R33) -/

theorem mkFlags_eq_flagsOf (z n h c : Bool) : mkFlags z n h c = flagsOf z n h c := by
  revert z n h c; decide

/-! ### The ALU's results in numbers -/

theorem aluAdd_value (a v : Byte) (c : Bool) : (aluAdd a v c).value.toNat = (a.toNat + v.toNat + c.toNat) % 256 :=
  BitVec.toNat_ofNat _ _

theorem aluAdd_flags (a v : Byte) (c : Bool) :
    (aluAdd a v c).flags = flagsOf (decide ((aluAdd a v c).value = 0)) false
      (decide (a.toNat % 16 + v.toNat % 16 + c.toNat > 15)) (decide (a.toNat + v.toNat + c.toNat > 255)) :=
  mkFlags_eq_flagsOf _ _ _ _

theorem aluSub_value (a v : Byte) (c : Bool) :
    ((aluSub a v c).value.toNat : Int) = ((a.toNat : Int) - v.toNat - c.toNat) % 256 := by
  have hnonneg : 0 ≤ ((a.toNat : Int) - v.toNat - c.toNat) % 256 := Int.emod_nonneg _ (by decide)
  rw [aluSub, BitVec.toNat_ofInt]
  exact Int.toNat_of_nonneg hnonneg

theorem aluSub_flags (a v : Byte) (c : Bool) :
    (aluSub a v c).flags = flagsOf (decide ((aluSub a v c).value = 0)) true
      (decide (((a.toNat % 16 : Nat) : Int) - (v.toNat % 16 : Nat) - c.toNat < 0))
      (decide ((a.toNat : Int) - v.toNat - c.toNat < 0)) :=
  mkFlags_eq_flagsOf _ _ _ _

/-- The low nibble of a byte is its value modulo 16. -/
theorem lowNibble_beq (v k : Byte) : (v &&& 0xF == k) = decide (v.toNat % 16 = k.toNat) := by
  have hmod : (v &&& 0xF).toNat = v.toNat % 16 := Nat.and_two_pow_sub_one_eq_mod v.toNat 4
  exact decide_eq_decide.mpr (by rw [← BitVec.toNat_inj, hmod])

theorem aluInc_value (v : Byte) (c : Bool) : (aluInc v c).value.toNat = (v.toNat + 1) % 256 :=
  BitVec.toNat_add v 1

theorem aluInc_flags (v : Byte) (c : Bool) :
    (aluInc v c).flags = flagsOf (decide ((aluInc v c).value = 0)) false (decide (v.toNat % 16 = 15)) c := by
  rw [aluInc, lowNibble_beq]
  exact mkFlags_eq_flagsOf _ _ _ _

theorem toNat_sub_byte (v d : Byte) : (v - d).toNat = (v.toNat + (256 - d.toNat)) % 256 := by
  rw [BitVec.toNat_sub, Nat.add_comm]

theorem aluDec_value (v : Byte) (c : Bool) : (aluDec v c).value.toNat = (v.toNat + 255) % 256 :=
  toNat_sub_byte v 1

theorem aluDec_flags (v : Byte) (c : Bool) :
    (aluDec v c).flags = flagsOf (decide ((aluDec v c).value = 0)) true (decide (v.toNat % 16 = 0)) c := by
  rw [aluDec, lowNibble_beq]
  exact mkFlags_eq_flagsOf _ _ _ _

/-! ### ADD, ADC, SUB, SBC and CP (R251 to R254, R258) -/

theorem addLaw_of_aluAdd {r : Row (State → Byte)} {carry : State → Bool}
    (h : r.Encoded ∧ ∀ s, exec r.instr s = .next (setA (aluAdd s.cpu.a (r.arg s) (carry s)) s)) :
    AddLaw r (fun s => (carry s).toNat) :=
  h.imp_right fun hexec s => ⟨_, _, hexec s, aluAdd_value _ _ _, aluAdd_flags _ _ _⟩

theorem addRow_meaning (n : Byte) : ∀ r ∈ addRows n, r.Encoded ∧ ∀ s, exec r.instr s = .next (opAdd (r.arg s) s) := by
  intro r hr
  fin_cases hr <;> exact ⟨row_encoded rfl rfl rfl, fun _ => rfl⟩

theorem adcRow_meaning (n : Byte) : ∀ r ∈ adcRows n, r.Encoded ∧ ∀ s, exec r.instr s = .next (opAdc (r.arg s) s) := by
  intro r hr
  fin_cases hr <;> exact ⟨row_encoded rfl rfl rfl, fun _ => rfl⟩

/-- Settles O9: each row puts `aluAdd` of A and its operand into A and F, with the carry in false or F.C. -/
theorem additionsAndTheirFlags : Obligations.AdditionsAndTheirFlags := fun n =>
  ⟨fun r hr => addLaw_of_aluAdd (carry := fun _ => false) (addRow_meaning n r hr),
   fun r hr => addLaw_of_aluAdd (carry := fun s => s.cpu.cf) (adcRow_meaning n r hr)⟩

theorem subLaw_of_aluSub {r : Row (State → Byte)} {borrow : State → Bool} {write : Bool}
    (h : r.Encoded ∧ ∀ s, exec r.instr s =
      .next (withAF (if write then (aluSub s.cpu.a (r.arg s) (borrow s)).value else s.cpu.a)
        (aluSub s.cpu.a (r.arg s) (borrow s)).flags s)) :
    SubLaw r (fun s => (borrow s).toNat) write :=
  h.imp_right fun hexec s => ⟨_, _, hexec s, aluSub_value _ _ _, aluSub_flags _ _ _⟩

theorem subRow_meaning (n : Byte) : ∀ r ∈ subRows n, r.Encoded ∧ ∀ s, exec r.instr s = .next (opSub (r.arg s) s) := by
  intro r hr
  fin_cases hr <;> exact ⟨row_encoded rfl rfl rfl, fun _ => rfl⟩

theorem sbcRow_meaning (n : Byte) : ∀ r ∈ sbcRows n, r.Encoded ∧ ∀ s, exec r.instr s = .next (opSbc (r.arg s) s) := by
  intro r hr
  fin_cases hr <;> exact ⟨row_encoded rfl rfl rfl, fun _ => rfl⟩

theorem cpRow_meaning (n : Byte) : ∀ r ∈ cpRows n, r.Encoded ∧ ∀ s, exec r.instr s = .next (opCp (r.arg s) s) := by
  intro r hr
  fin_cases hr <;> exact ⟨row_encoded rfl rfl rfl, fun _ => rfl⟩

/-- Settles O10: each row takes `aluSub` of A and its operand, with the borrow in false or F.C; CP writes its flags only, which is A
written with itself. -/
theorem subtractionsAndTheirFlags : Obligations.SubtractionsAndTheirFlags := fun n =>
  ⟨fun r hr => subLaw_of_aluSub (borrow := fun _ => false) (write := true) (subRow_meaning n r hr),
   fun r hr => subLaw_of_aluSub (borrow := fun s => s.cpu.cf) (write := true) (sbcRow_meaning n r hr),
   fun r hr => subLaw_of_aluSub (borrow := fun _ => false) (write := false) (cpRow_meaning n r hr)⟩

/-! ### AND, XOR and OR (R255 to R257) -/

theorem logicLaw_of_setA {r : Row (State → Byte)} {op : Byte → Byte → Byte} {half : Bool}
    (h : r.Encoded ∧ ∀ s, exec r.instr s =
      .next (setA ⟨op s.cpu.a (r.arg s), mkFlags (op s.cpu.a (r.arg s) == 0) false half false⟩ s)) :
    LogicLaw r op half := by
  obtain ⟨henc, hexec⟩ := h
  refine ⟨henc, fun s => ?_⟩
  rw [hexec, mkFlags_eq_flagsOf]
  rfl

theorem andRow_meaning (n : Byte) : ∀ r ∈ andRows n, r.Encoded ∧ ∀ s, exec r.instr s = .next (opAnd (r.arg s) s) := by
  intro r hr
  fin_cases hr <;> exact ⟨row_encoded rfl rfl rfl, fun _ => rfl⟩

theorem xorRow_meaning (n : Byte) : ∀ r ∈ xorRows n, r.Encoded ∧ ∀ s, exec r.instr s = .next (opXor (r.arg s) s) := by
  intro r hr
  fin_cases hr <;> exact ⟨row_encoded rfl rfl rfl, fun _ => rfl⟩

theorem orRow_meaning (n : Byte) : ∀ r ∈ orRows n, r.Encoded ∧ ∀ s, exec r.instr s = .next (opOr (r.arg s) s) := by
  intro r hr
  fin_cases hr <;> exact ⟨row_encoded rfl rfl rfl, fun _ => rfl⟩

/-- Settles O11: each row puts the bitwise result and its flags into A and F. -/
theorem logicOperationsAndTheirFlags : Obligations.LogicOperationsAndTheirFlags := fun n =>
  ⟨fun r hr => logicLaw_of_setA (andRow_meaning n r hr), fun r hr => logicLaw_of_setA (xorRow_meaning n r hr),
   fun r hr => logicLaw_of_setA (orRow_meaning n r hr)⟩

/-! ### INC and DEC of a byte (R259 to R262) -/

theorem opModify_eq (o : Op8) (g : Byte → Alu) (s : State) :
    opModify o g s = withF (g (readOp8 o s)).flags (writeOp8 o (g (readOp8 o s)).value s) := rfl

theorem incRow_meaning : ∀ r ∈ incRows, r.Encoded ∧ ∀ s, exec r.instr s = .next (opInc8 r.arg s) := by
  intro r hr
  fin_cases hr <;> exact ⟨row_encoded rfl rfl rfl, fun _ => rfl⟩

theorem decRow_meaning : ∀ r ∈ decRows, r.Encoded ∧ ∀ s, exec r.instr s = .next (opDec8 r.arg s) := by
  intro r hr
  fin_cases hr <;> exact ⟨row_encoded rfl rfl rfl, fun _ => rfl⟩

/-- Settles O12: each row replaces its operand by `aluInc` or `aluDec` of it, given the C that F held before. -/
theorem byteIncrementsAndDecrements : Obligations.ByteIncrementsAndDecrements := by
  refine ⟨fun r hr => ?_, fun r hr => ?_⟩
  · obtain ⟨henc, hexec⟩ := incRow_meaning r hr
    refine ⟨henc, fun s => ⟨_, ?_, aluInc_value (readOp8 r.arg s) s.cpu.cf⟩⟩
    rw [hexec, opInc8, opModify_eq, aluInc_flags]
    rfl
  · obtain ⟨henc, hexec⟩ := decRow_meaning r hr
    refine ⟨henc, fun s => ⟨_, ?_, aluDec_value (readOp8 r.arg s) s.cpu.cf⟩⟩
    rw [hexec, opDec8, opModify_eq, aluDec_flags]
    rfl

/-! ### DAA (R263) -/

theorem toNat_ite_add (b : Bool) (a d : Byte) :
    (if b then a + d else a).toNat = if b then (a.toNat + d.toNat) % 256 else a.toNat := by
  rw [apply_ite BitVec.toNat, BitVec.toNat_add]

theorem toNat_ite_sub (b : Bool) (a d : Byte) :
    (if b then a - d else a).toNat = if b then (a.toNat + (256 - d.toNat)) % 256 else a.toNat := by
  rw [apply_ite BitVec.toNat, toNat_sub_byte]

/-- After an addition: the high adjustment, then the low one, whose test sees the first one's result. -/
theorem daaAdd_value (a : Byte) (h c : Bool) :
    let high := c || decide (a.toNat > 0x99)
    let mid := if high then (a.toNat + 0x60) % 256 else a.toNat
    (daaAdd a h c).value.toNat = if h || decide (mid % 16 > 9) then (mid + 6) % 256 else mid := by
  simp only [daaAdd, toNat_ite_add]
  rfl

theorem daaAdd_flags (a : Byte) (h c : Bool) :
    (daaAdd a h c).flags = flagsOf (decide ((daaAdd a h c).value = 0)) false false (c || decide (a.toNat > 0x99)) :=
  mkFlags_eq_flagsOf _ _ _ _

/-- After a subtraction: both adjustments by the flags alone. -/
theorem daaSub_value (a : Byte) (h c : Bool) :
    let mid := if c then (a.toNat + (256 - 0x60)) % 256 else a.toNat
    (daaSub a h c).value.toNat = if h then (mid + (256 - 6)) % 256 else mid := by
  simp only [daaSub, toNat_ite_sub]
  rfl

theorem daaSub_flags (a : Byte) (h c : Bool) :
    (daaSub a h c).flags = flagsOf (decide ((daaSub a h c).value = 0)) true false c :=
  mkFlags_eq_flagsOf _ _ _ _

theorem exec_daa (s : State) : exec .daa s = .next (setA (aluDaa s.cpu.a s.cpu.nf s.cpu.hf s.cpu.cf) s) := rfl

/-- Settles O13: DAA is `daaAdd` or `daaSub`, as F.N says. -/
theorem decimalAdjustFollowsTheTable : Obligations.DecimalAdjustFollowsTheTable := by
  refine ⟨row_encoded rfl rfl rfl, fun s =>
    ⟨_, _, exec_daa s, fun (hn : s.cpu.nf = false) => ?_, fun (hn : s.cpu.nf = true) => ?_⟩⟩
  · rw [hn]
    exact ⟨daaAdd_value _ _ _, daaAdd_flags _ _ _⟩
  · rw [hn]
    exact ⟨daaSub_value _ _ _, daaSub_flags _ _ _⟩

/-! ### CPL, SCF and CCF (R264 to R266) -/

theorem exec_cpl (s : State) : exec .cpl s = .next (setA ⟨~~~s.cpu.a, mkFlags s.cpu.zf true true s.cpu.cf⟩ s) := rfl
theorem exec_scf (s : State) : exec .scf s = .next (setFlags (mkFlags s.cpu.zf false false true) s) := rfl
theorem exec_ccf (s : State) : exec .ccf s = .next (setFlags (mkFlags s.cpu.zf false false !s.cpu.cf) s) := rfl

/-- Settles O14: each writes F from the old Z and C; CPL also writes A's complement, which is 255 - A. -/
theorem complementAndCarryFlagInstructions : Obligations.ComplementAndCarryFlagInstructions := by
  refine ⟨row_encoded rfl rfl rfl, row_encoded rfl rfl rfl, row_encoded rfl rfl rfl, fun s => ⟨⟨~~~s.cpu.a, ?_, ?_⟩, ?_, ?_⟩⟩
  · rw [exec_cpl, mkFlags_eq_flagsOf]
    rfl
  · exact BitVec.toNat_not
  · rw [exec_scf, mkFlags_eq_flagsOf]
    rfl
  · rw [exec_ccf, mkFlags_eq_flagsOf]
    rfl

end Sys2Proof.Machine
end

section
/-! PROOF. 16-bit arithmetic in numbers (R300 to R304): INC rr, DEC rr, ADD HL,rr, ADD SP,e and LD HL,SP+e. -/

namespace Sys2Proof.Machine

open Claims

/-! ### INC rr and DEC rr (R300, R301) -/

theorem incPairRow_meaning : ∀ r ∈ incPairRows, r.Encoded ∧ ∀ s, exec r.instr s = .next (opAddPair r.arg 1 s) := by
  intro r hr
  fin_cases hr <;> exact ⟨row_encoded rfl rfl rfl, fun _ => rfl⟩

theorem decPairRow_meaning : ∀ r ∈ decPairRows, r.Encoded ∧ ∀ s, exec r.instr s = .next (opAddPair r.arg (-1) s) := by
  intro r hr
  fin_cases hr <;> exact ⟨row_encoded rfl rfl rfl, fun _ => rfl⟩

/-- Settles O15: each row adds 1 or -1 to its pair, and -1 is 65535 modulo 2^16;
the pairs are `Cpu.pair` and `Cpu.setPair` by definition. -/
theorem pairIncrementsAndDecrements : Obligations.PairIncrementsAndDecrements := by
  refine ⟨fun r hr => ?_, fun r hr => ?_, fun _ _ => ⟨rfl, rfl, rfl, rfl, rfl, rfl, rfl, rfl⟩⟩
  · obtain ⟨henc, hexec⟩ := incPairRow_meaning r hr
    exact ⟨henc, fun s => ⟨_, hexec s, BitVec.toNat_add _ 1⟩⟩
  · obtain ⟨henc, hexec⟩ := decPairRow_meaning r hr
    exact ⟨henc, fun s => ⟨_, hexec s, BitVec.toNat_add _ (-1)⟩⟩

/-! ### ADD HL,rr (R302) -/

theorem addHlRow_meaning : ∀ r ∈ addHlRows, r.Encoded ∧ ∀ s, exec r.instr s = .next (opAddHl r.arg s) := by
  intro r hr
  fin_cases hr <;> exact ⟨row_encoded rfl rfl rfl, fun _ => rfl⟩

theorem addHlFlags_eq (hl rr : Word16) (z : Bool) :
    addHlFlags hl rr z = flagsOf z false (decide (hl.toNat % 4096 + rr.toNat % 4096 > 4095)) (decide (hl.toNat + rr.toNat > 65535)) :=
  mkFlags_eq_flagsOf _ _ _ _

/-- ADD HL,rr writes the sum to HL and its flags to F; both operands are read before HL is written. -/
theorem opAddHl_eq (r : Reg16) (s : State) :
    opAddHl r s = withF (addHlFlags s.cpu.hl (s.cpu.pair r) s.cpu.zf) { s with cpu := s.cpu.setHl (s.cpu.hl + s.cpu.pair r) } := rfl

/-! ### ADD SP,e and LD HL,SP+e (R303, R304) -/

theorem exec_add_SP_e (e : Byte) (s : State) : exec (.add_SP_e e) s =
    .next { s with cpu := { s.cpu with sp := s.cpu.sp + sext16 e, f := addSpFlags s.cpu.sp e } } := rfl

theorem exec_ld_HL_SPe (e : Byte) (s : State) : exec (.ld_HL_SPe e) s =
    .next { s with cpu := { s.cpu.setHl (s.cpu.sp + sext16 e) with f := addSpFlags s.cpu.sp e } } := rfl

/-- Adding a sign-extended byte is adding its signed value modulo 2^16. -/
theorem toNat_add_sext16 (w : Word16) (e : Byte) : ((w + sext16 e).toNat : Int) = ((w.toNat : Int) + e.toInt) % 65536 := by
  have hext : (sext16 e).toNat = (e.toInt % 65536).toNat := BitVec.toNat_ofInt _
  rw [BitVec.toNat_add, hext]
  omega

theorem addSpFlags_eq (sp : Word16) (e : Byte) : addSpFlags sp e =
    flagsOf false false (decide (sp.toNat % 16 + e.toNat % 16 > 15)) (decide (sp.toNat % 256 + e.toNat > 255)) :=
  mkFlags_eq_flagsOf _ _ _ _

/-- Settles O16: ADD HL,rr is `opAddHl`, with the sum and flags of its two operands; the other two write the same sum of SP and the
signed byte, with the same flags, to SP and to HL. -/
theorem sixteenBitAdditions : Obligations.SixteenBitAdditions := by
  refine ⟨fun r hr => ?_, fun e => ⟨row_encoded rfl rfl rfl, row_encoded rfl rfl rfl⟩, fun e s => ?_⟩
  · obtain ⟨henc, hexec⟩ := addHlRow_meaning r hr
    refine ⟨henc, fun s => ⟨s.cpu.hl + s.cpu.pair r.arg, ?_, BitVec.toNat_add _ _⟩⟩
    rw [hexec, opAddHl_eq, addHlFlags_eq]
    rfl
  · exact ⟨_, _, exec_add_SP_e e s, exec_ld_HL_SPe e s, toNat_add_sext16 s.cpu.sp e, addSpFlags_eq s.cpu.sp e⟩

end Sys2Proof.Machine
end

section
/-! PROOF. Rotates, shifts and single bits in numbers (R320 to R335): what each result and its flags are, then the rows of each table. -/

namespace Sys2Proof.Machine

open Claims

/-! ### The results in numbers (R325 to R332) -/

/-- A word put together from high and `m` low bits is a sum. -/
theorem toNat_append_eq_add {n m : Nat} (hi : BitVec n) (lo : BitVec m) : (hi ++ lo).toNat = hi.toNat * 2 ^ m + lo.toNat := by
  rw [BitVec.toNat_append, ← Nat.shiftLeft_add_eq_or_of_lt lo.isLt, Nat.shiftLeft_eq]

/-- Shifting left by one moves a bit in from the right. -/
theorem toNat_shiftInLow (v : Byte) (b : Bool) : (v.extractLsb' 0 7 ++ BitVec.ofBool b).toNat = v.toNat * 2 % 256 + b.toNat := by
  rw [toNat_append_eq_add, BitVec.extractLsb'_toNat, BitVec.toNat_ofBool, Nat.shiftRight_zero]
  omega

/-- Shifting right by one moves a bit in from the left. -/
theorem toNat_shiftInHigh (v : Byte) (b : Bool) : (BitVec.ofBool b ++ v.extractLsb' 1 7).toNat = v.toNat / 2 + 128 * b.toNat := by
  have hv := v.isLt
  rw [toNat_append_eq_add, BitVec.extractLsb'_toNat, BitVec.toNat_ofBool, Nat.shiftRight_eq_div_pow]
  omega

theorem aluRlc_value (v : Byte) : (aluRlc v).value.toNat = v.toNat * 2 % 256 + (v.getLsbD 7).toNat := toNat_shiftInLow v _
theorem aluRrc_value (v : Byte) : (aluRrc v).value.toNat = v.toNat / 2 + 128 * (v.getLsbD 0).toNat := toNat_shiftInHigh v _
theorem aluRl_value (v : Byte) (c : Bool) : (aluRl v c).value.toNat = v.toNat * 2 % 256 + c.toNat := toNat_shiftInLow v c
theorem aluRr_value (v : Byte) (c : Bool) : (aluRr v c).value.toNat = v.toNat / 2 + 128 * c.toNat := toNat_shiftInHigh v c

theorem aluSla_value (v : Byte) : (aluSla v).value.toNat = v.toNat * 2 % 256 := by
  rw [aluSla, BitVec.toNat_shiftLeft, Nat.shiftLeft_eq]

theorem aluSrl_value (v : Byte) : (aluSrl v).value.toNat = v.toNat / 2 := by
  rw [aluSrl, BitVec.toNat_ushiftRight, Nat.shiftRight_eq_div_pow]

/-- SRA shifts bit 7 in from the left. -/
theorem aluSra_eq_shiftInHigh (v : Byte) : (aluSra v).value = BitVec.ofBool (v.getLsbD 7) ++ v.extractLsb' 1 7 := by
  revert v; decide

theorem aluSra_value (v : Byte) : (aluSra v).value.toNat = v.toNat / 2 + 128 * (v.getLsbD 7).toNat := by
  rw [aluSra_eq_shiftInHigh, toNat_shiftInHigh]

theorem aluSwap_value (v : Byte) : (aluSwap v).value.toNat = v.toNat % 16 * 16 + v.toNat / 16 := by
  have hv := v.isLt
  rw [aluSwap, toNat_append_eq_add, BitVec.extractLsb'_toNat, BitVec.extractLsb'_toNat, Nat.shiftRight_eq_div_pow]
  omega

theorem shiftFlags_eq (res : Byte) (c : Bool) : shiftFlags res c = flagsOf (decide (res = 0)) false false c :=
  mkFlags_eq_flagsOf _ _ _ _

/-! ### The accumulator rotates (R320 to R323) -/

/-- Clearing bit 7 of F clears Z. -/
theorem shiftFlags_and_7F (res : Byte) (c : Bool) : shiftFlags res c &&& 0x7F = flagsOf false false false c := by
  have key : ∀ z c, mkFlags z false false c &&& 0x7F = flagsOf false false false c := by decide
  exact key _ c

/-- A rotate whose C is the bit shifted out writes its result to A, and F with C alone. -/
theorem opRotateA_eq {g : Byte → Alu} {out : Byte → Bool} (hflags : ∀ v, (g v).flags = shiftFlags (g v).value (out v)) (s : State) :
    opRotateA g s = withAF (g s.cpu.a).value (flagsOf false false false (out s.cpu.a)) s := by
  rw [← shiftFlags_and_7F (g s.cpu.a).value, ← hflags]
  rfl

theorem exec_rlca (s : State) : exec .rlca s = .next (opRotateA aluRlc s) := rfl
theorem exec_rrca (s : State) : exec .rrca s = .next (opRotateA aluRrc s) := rfl
theorem exec_rla (s : State) : exec .rla s = .next (opRotateA (fun v => aluRl v s.cpu.cf) s) := rfl
theorem exec_rra (s : State) : exec .rra s = .next (opRotateA (fun v => aluRr v s.cpu.cf) s) := rfl

/-- Settles O17: each is `opRotateA` of its rotate, which clears the Z of the rotate's flags. -/
theorem accumulatorRotatesClearZ : Obligations.AccumulatorRotatesClearZ := by
  refine ⟨row_encoded rfl rfl rfl, row_encoded rfl rfl rfl, row_encoded rfl rfl rfl, row_encoded rfl rfl rfl, fun s =>
    ⟨_, _, _, _, ?_, ?_, ?_, ?_, aluRlc_value s.cpu.a, aluRrc_value s.cpu.a, aluRl_value s.cpu.a s.cpu.cf,
      aluRr_value s.cpu.a s.cpu.cf⟩⟩
  · rw [exec_rlca, opRotateA_eq fun _ => rfl]
  · rw [exec_rrca, opRotateA_eq fun _ => rfl]
  · rw [exec_rla, opRotateA_eq fun _ => rfl]
  · rw [exec_rra, opRotateA_eq fun _ => rfl]

/-! ### The CB rotates and shifts (R325 to R332) -/

/-- A row that replaces its operand by a rotate or shift of it, given F.C, meets the law. -/
theorem shiftLaw_of_opModify {r : Row Op8} {g : Byte → Bool → Alu} {res : Byte → Nat → Nat} {out : Byte → Bool}
    (h : r.Encoded ∧ ∀ s, exec r.instr s = .next (opModify r.arg (fun v => g v s.cpu.cf) s))
    (hvalue : ∀ v c, (g v c).value.toNat = res v c.toNat) (hflags : ∀ v c, (g v c).flags = shiftFlags (g v c).value (out v)) :
    ShiftLaw r res out := by
  obtain ⟨henc, hexec⟩ := h
  refine ⟨henc, fun s => ⟨_, ?_, hvalue (readOp8 r.arg s) s.cpu.cf⟩⟩
  rw [hexec, opModify_eq, hflags, shiftFlags_eq]

theorem rlcRow_meaning : ∀ r ∈ rlcRows, r.Encoded ∧ ∀ s, exec r.instr s = .next (opModify r.arg aluRlc s) := by
  intro r hr
  fin_cases hr <;> exact ⟨row_encoded rfl rfl rfl, fun _ => rfl⟩

theorem rrcRow_meaning : ∀ r ∈ rrcRows, r.Encoded ∧ ∀ s, exec r.instr s = .next (opModify r.arg aluRrc s) := by
  intro r hr
  fin_cases hr <;> exact ⟨row_encoded rfl rfl rfl, fun _ => rfl⟩

theorem rlRow_meaning : ∀ r ∈ rlRows, r.Encoded ∧ ∀ s, exec r.instr s = .next (opModify r.arg (fun v => aluRl v s.cpu.cf) s) := by
  intro r hr
  fin_cases hr <;> exact ⟨row_encoded rfl rfl rfl, fun _ => rfl⟩

theorem rrRow_meaning : ∀ r ∈ rrRows, r.Encoded ∧ ∀ s, exec r.instr s = .next (opModify r.arg (fun v => aluRr v s.cpu.cf) s) := by
  intro r hr
  fin_cases hr <;> exact ⟨row_encoded rfl rfl rfl, fun _ => rfl⟩

/-- Settles O18: each row replaces its operand by its rotate. -/
theorem rotatesOnEveryOperand : Obligations.RotatesOnEveryOperand :=
  ⟨fun r hr => shiftLaw_of_opModify (g := fun v _ => aluRlc v) (rlcRow_meaning r hr) (fun v _ => aluRlc_value v) fun _ _ => rfl,
   fun r hr => shiftLaw_of_opModify (g := fun v _ => aluRrc v) (rrcRow_meaning r hr) (fun v _ => aluRrc_value v) fun _ _ => rfl,
   fun r hr => shiftLaw_of_opModify (rlRow_meaning r hr) aluRl_value fun _ _ => rfl,
   fun r hr => shiftLaw_of_opModify (rrRow_meaning r hr) aluRr_value fun _ _ => rfl⟩

theorem slaRow_meaning : ∀ r ∈ slaRows, r.Encoded ∧ ∀ s, exec r.instr s = .next (opModify r.arg aluSla s) := by
  intro r hr
  fin_cases hr <;> exact ⟨row_encoded rfl rfl rfl, fun _ => rfl⟩

theorem sraRow_meaning : ∀ r ∈ sraRows, r.Encoded ∧ ∀ s, exec r.instr s = .next (opModify r.arg aluSra s) := by
  intro r hr
  fin_cases hr <;> exact ⟨row_encoded rfl rfl rfl, fun _ => rfl⟩

theorem swapRow_meaning : ∀ r ∈ swapRows, r.Encoded ∧ ∀ s, exec r.instr s = .next (opModify r.arg aluSwap s) := by
  intro r hr
  fin_cases hr <;> exact ⟨row_encoded rfl rfl rfl, fun _ => rfl⟩

theorem srlRow_meaning : ∀ r ∈ srlRows, r.Encoded ∧ ∀ s, exec r.instr s = .next (opModify r.arg aluSrl s) := by
  intro r hr
  fin_cases hr <;> exact ⟨row_encoded rfl rfl rfl, fun _ => rfl⟩

/-- Settles O19: each row replaces its operand by its shift; none of them reads F. -/
theorem shiftsOnEveryOperand : Obligations.ShiftsOnEveryOperand :=
  ⟨fun r hr => shiftLaw_of_opModify (g := fun v _ => aluSla v) (slaRow_meaning r hr) (fun v _ => aluSla_value v) fun _ _ => rfl,
   fun r hr => shiftLaw_of_opModify (g := fun v _ => aluSra v) (sraRow_meaning r hr) (fun v _ => aluSra_value v) fun _ _ => rfl,
   fun r hr => shiftLaw_of_opModify (g := fun v _ => aluSwap v) (swapRow_meaning r hr) (fun v _ => aluSwap_value v) fun _ _ => rfl,
   fun r hr => shiftLaw_of_opModify (g := fun v _ => aluSrl v) (srlRow_meaning r hr) (fun v _ => aluSrl_value v) fun _ _ => rfl⟩

/-! ### BIT, RES and SET (R333 to R335) -/

/-- The mask of bit `b` has that bit alone. -/
theorem getLsbD_bitMask (b : Nat) {i : Nat} (hi : i < 8) : (1#8 <<< b).getLsbD i = decide (i = b) := by
  have hmask : (1#8 <<< b).getLsbD i = (decide (b < 8) && decide (b = i)) := BitVec.getLsbD_twoPow b i
  rw [hmask, ← Bool.decide_and]
  exact decide_eq_decide.mpr (by omega)

theorem getLsbD_resBit (v : Byte) (b : Nat) {i : Nat} (hi : i < 8) :
    (resBit v b).getLsbD i = (v.getLsbD i && decide (i ≠ b)) := by
  rw [resBit, BitVec.getLsbD_and, BitVec.getLsbD_not, getLsbD_bitMask b hi, decide_eq_true hi, Bool.true_and, decide_not]

theorem getLsbD_setBit (v : Byte) (b : Nat) {i : Nat} (hi : i < 8) :
    (setBit v b).getLsbD i = (v.getLsbD i || decide (i = b)) := by
  rw [setBit, BitVec.getLsbD_or, getLsbD_bitMask b hi]

theorem bitRow_meaning : ∀ r ∈ bitRowsB ++ bitRowsC ++ bitRowsD ++ bitRowsE ++ bitRowsH ++ bitRowsL ++ bitRowsHl ++ bitRowsA,
    r.Encoded ∧ ∀ s, exec r.instr s = .next (opBit r.arg.1 r.arg.2 s) := by
  intro r hr
  fin_cases hr <;> exact ⟨row_encoded rfl rfl rfl, fun _ => rfl⟩

theorem resRow_meaning : ∀ r ∈ resRowsB ++ resRowsC ++ resRowsD ++ resRowsE ++ resRowsH ++ resRowsL ++ resRowsHl ++ resRowsA,
    r.Encoded ∧ ∀ s, exec r.instr s = .next (opRes r.arg.1 r.arg.2 s) := by
  intro r hr
  fin_cases hr <;> exact ⟨row_encoded rfl rfl rfl, fun _ => rfl⟩

theorem setRow_meaning : ∀ r ∈ setRowsB ++ setRowsC ++ setRowsD ++ setRowsE ++ setRowsH ++ setRowsL ++ setRowsHl ++ setRowsA,
    r.Encoded ∧ ∀ s, exec r.instr s = .next (opSet r.arg.1 r.arg.2 s) := by
  intro r hr
  fin_cases hr <;> exact ⟨row_encoded rfl rfl rfl, fun _ => rfl⟩

/-- Settles O21: each row writes its operand with the bit's mask taken out or put in. -/
theorem resAndSetChangeOneBit : Obligations.ResAndSetChangeOneBit := by
  refine ⟨fun r hr => ?_, fun r hr => ?_⟩
  · obtain ⟨henc, hexec⟩ := resRow_meaning r hr
    exact ⟨henc, fun s => ⟨_, hexec s, fun _ hi => getLsbD_resBit _ _ hi⟩⟩
  · obtain ⟨henc, hexec⟩ := setRow_meaning r hr
    exact ⟨henc, fun s => ⟨_, hexec s, fun _ hi => getLsbD_setBit _ _ hi⟩⟩

theorem bitFlags_eq (v : Byte) (b : Nat) (c : Bool) : bitFlags v b c = flagsOf (!v.getLsbD b) false true c :=
  mkFlags_eq_flagsOf _ _ _ _

/-- Settles O20: each row writes F only, with the tested bit's complement as Z. -/
theorem bitTestsWriteFlagsOnly : Obligations.BitTestsWriteFlagsOnly := by
  intro r hr
  obtain ⟨henc, hexec⟩ := bitRow_meaning r hr
  refine ⟨henc, fun s => ?_⟩
  rw [hexec, opBit, bitFlags_eq]
  rfl

end Sys2Proof.Machine
end

section
/-! PROOF. Jumps, calls and restarts (R371 to R377, R381): what each table's rows run, taken and not taken. -/

namespace Sys2Proof.Machine

open Claims

/-! ### Conditional rows (R370) -/

/-- A row that runs an operation under its condition answers that operation's state, or the same state when the condition is false. -/
theorem exec_condRow {r : CondRow} {g : State → State} (hexec : ∀ s, exec r.instr s = .next (whenCond r.cc g s)) (s : State) :
    (Holds r.cc s.cpu → exec r.instr s = .next (g s)) ∧ (¬Holds r.cc s.cpu → exec r.instr s = .next s) := by
  obtain ⟨htaken, hnot⟩ := whenCond_holds r.cc g s
  exact ⟨fun h => (hexec s).trans (congrArg _ (htaken h)), fun h => (hexec s).trans (congrArg _ (hnot h))⟩

/-! ### JP and JR (R371 to R375) -/

theorem jpCondRow_meaning (nn : Word16) :
    ∀ r ∈ jpCondRows nn, r.Encoded ∧ ∀ s, exec r.instr s = .next (whenCond r.cc (jump nn) s) := by
  intro r hr
  fin_cases hr <;> exact ⟨condRow_encoded rfl rfl rfl rfl, fun _ => rfl⟩

theorem jrCondRow_meaning (e : Byte) :
    ∀ r ∈ jrCondRows e, r.Encoded ∧ ∀ s, exec r.instr s = .next (whenCond r.cc (opJr e) s) := by
  intro r hr
  fin_cases hr <;> exact ⟨condRow_encoded rfl rfl rfl rfl, fun _ => rfl⟩

/-- Settles O22: each jump is a write of PC by definition, the conditional ones that under their condition; JR's target is PC plus the
signed byte (`toNat_add_sext16`). -/
theorem jumpsWritePcOnly : Obligations.JumpsWritePcOnly := by
  refine ⟨fun nn => ⟨row_encoded rfl rfl rfl, fun _ => rfl⟩, fun nn r hr => ?_, ⟨row_encoded rfl rfl rfl, fun _ => rfl⟩,
    fun e => ⟨row_encoded rfl rfl rfl, fun s => ⟨_, rfl, toNat_add_sext16 s.cpu.pc e⟩⟩, fun e r hr => ?_⟩
  · obtain ⟨henc, hexec⟩ := jpCondRow_meaning nn r hr
    exact ⟨henc, exec_condRow hexec⟩
  · obtain ⟨henc, hexec⟩ := jrCondRow_meaning e r hr
    refine ⟨henc, fun s => ?_⟩
    obtain ⟨htaken, hnot⟩ := exec_condRow hexec s
    exact ⟨fun h => ⟨_, htaken h, toNat_add_sext16 s.cpu.pc e⟩, hnot⟩

/-! ### CALL and RST (R376, R377, R381) -/

/-- A call is Push16 of PC, whose two bus writes and change of SP are `push16_eq`, and then a write of PC. -/
theorem opCall_eq (t : Word16) (s : State) :
    opCall t s = { pushed s.cpu.pc s with cpu := { s.cpu with sp := s.cpu.sp - 2, pc := t } } :=
  congrArg (jump t) (push16_eq s.cpu.pc s)

theorem callCondRow_meaning (nn : Word16) :
    ∀ r ∈ callCondRows nn, r.Encoded ∧ ∀ s, exec r.instr s = .next (whenCond r.cc (opCall nn) s) := by
  intro r hr
  fin_cases hr <;> exact ⟨condRow_encoded rfl rfl rfl rfl, fun _ => rfl⟩

theorem rstRow_meaning : ∀ r ∈ rstRows, r.Encoded ∧ ∀ s, exec r.instr s = .next (opCall r.arg s) := by
  intro r hr
  fin_cases hr <;> exact ⟨row_encoded rfl rfl rfl, fun _ => rfl⟩

theorem exec_call_nn (nn : Word16) (s : State) : exec (.call_nn nn) s = .next (opCall nn s) := rfl

/-- Settles O23: CALL and RST are `opCall` of their target, CALL cc that under its condition. -/
theorem callsPushTheReturnAddress : Obligations.CallsPushTheReturnAddress := by
  refine ⟨fun nn => ⟨row_encoded rfl rfl rfl, fun s => ?_⟩, fun nn r hr => ?_, fun r hr => ?_⟩
  · rw [exec_call_nn, opCall_eq]
  · obtain ⟨henc, hexec⟩ := callCondRow_meaning nn r hr
    refine ⟨henc, fun s => ?_⟩
    rw [← opCall_eq]
    exact exec_condRow hexec s
  · obtain ⟨henc, hexec⟩ := rstRow_meaning r hr
    exact ⟨henc, fun s => (hexec s).trans (congrArg _ (opCall_eq r.arg s))⟩

end Sys2Proof.Machine
end

section
/-! PROOF. HALT, NOP, STOP, DI and EI (R400 to R404), and the step of a suspended CPU (R401, R402, R690). -/

namespace Sys2Proof.Machine

open Claims

/-! ### HALT (R401) -/

/-- Some source is both pending and enabled, bit by bit (R433). -/
theorem pendingEnabled_ne_zero (s : State) :
    pendingEnabled s ≠ 0 ↔ ∃ k < 5, s.ie.getLsbD k = true ∧ s.iflag.getLsbD k = true := by
  rw [ne_eq, pendingEnabled_eq_zero]
  simp

theorem opHalt_enabled {s : State} (h : s.cpu.ime = true ∨ s.cpu.eiPending = true) :
    opHalt s = { s with cpu := { s.cpu with halt := true, haltDI := false } } :=
  if_pos (Bool.or_eq_true_iff.mpr h)

/-- With IME 0 and no EI just before it, HALT is decided by the pending mask. -/
theorem opHalt_disabled {s : State} (hime : s.cpu.ime = false) (hei : s.cpu.eiPending = false) :
    opHalt s =
      if pendingEnabled s ≠ 0 then { s with cpu := { s.cpu with haltBug := true } }
      else { s with cpu := { s.cpu with halt := true, haltDI := true } } :=
  if_neg (by simp [hime, hei])

theorem exec_halt (s : State) : exec .halt s = .next (opHalt s) := rfl

/-- Settles O26: HALT is `opHalt`, whose cases with IME 0 are those of the pending mask, read bit by bit. -/
theorem haltSuspendsOrSetsTheHaltBug : Obligations.HaltSuspendsOrSetsTheHaltBug := by
  refine ⟨row_encoded rfl rfl rfl, fun s => ?_⟩
  rw [exec_halt]
  refine ⟨fun h => congrArg _ (opHalt_enabled h), fun hime hei => ?_⟩
  rw [opHalt_disabled hime hei]
  exact ⟨fun hsome => congrArg _ (if_pos ((pendingEnabled_ne_zero s).mpr hsome)),
    fun hnone => congrArg _ (if_neg (not_not_intro ((pendingEnabled_eq_zero s).mpr hnone)))⟩

/-! ### NOP, STOP, DI and EI (R400, R402 to R404) -/

/-- Settles O25: each is a write of the CPU's control bits by definition; STOP ignores its second byte. -/
theorem nopStopDiAndEi : Obligations.NopStopDiAndEi :=
  ⟨row_encoded rfl rfl rfl, fun _ => row_encoded rfl rfl rfl, row_encoded rfl rfl rfl, row_encoded rfl rfl rfl,
   fun _ => ⟨rfl, fun _ => rfl, rfl, rfl⟩⟩

/-! ### The step of a suspended CPU (R401, R402, R690) -/

theorem step_unlocked {s : State} (h : s.cpu.locked = none) :
    step s =
      if s.cpu.stopped then .next (updateCycles 4 s)
      else if s.cpu.halt then .next (interruptCheck (updateCycles 4 s))
      else fetchAndRun s := by
  rw [step, runStep, h]

/-- Settles O33: an unlocked step looks at STOP first, then at HALT. -/
theorem suspendedStepsIdleFourCycles : Obligations.SuspendedStepsIdleFourCycles := by
  intro s hlocked
  rw [step_unlocked hlocked]
  refine ⟨fun hstopped => if_pos hstopped, fun hstopped hhalt => ?_⟩
  rw [if_neg (Bool.eq_false_iff.mp hstopped), if_pos hhalt]

end Sys2Proof.Machine
end

section
/-! PROOF. How a step ends without a next state (R426, R430, R690). -/

namespace Sys2Proof.Machine

/-- A defined instruction never locks up: the eleven invalid encodings alone do (R183, R426). -/
theorem exec_next_of_wellFormed {i : Instr} (h : i.wellFormed = true) (s : State) : ∃ t, exec i s = .next t := by
  cases i
  case invalid_D3 | invalid_DB | invalid_DD | invalid_E3 | invalid_E4 | invalid_EB | invalid_EC | invalid_ED | invalid_F4 |
      invalid_FC | invalid_FD =>
    exact absurd h (by decide)
  all_goals exact ⟨_, rfl⟩

/-- A running machine steps to a next state, or an invalid opcode under PC locks it up (R430). -/
theorem step_of_running {s : State} (h : Running s) :
    (∃ t, step s = .next t) ∨
      (busRead s.cpu.pc s ∈ invalidOpcodes ∧ step s = .fault (.locked (busRead s.cpu.pc s))) := by
  cases hwf : (fetched s).1.wellFormed with
  | true =>
    obtain ⟨t, ht⟩ := exec_next_of_wellFormed hwf (afterFetch s)
    exact .inl ⟨_, (step_running h).trans (runInstr_next ht)⟩
  | false =>
    have hop : busRead s.cpu.pc s ∈ invalidOpcodes := (decodeBytes_illFormed _ _ _).mp hwf
    obtain ⟨r, hr, harg⟩ := mem_invalidOpcodes.mp hop
    obtain ⟨-, -, hcell, hexec⟩ := invalidRow_meaning r hr
    rw [harg] at hcell hexec
    exact .inr ⟨hop, step_locks h hcell hexec⟩

/-- Settles O28: a locked machine faults, a stopped or halted one idles, a running one is `step_of_running`. -/
theorem aStepStopsOnlyByLocking : Obligations.AStepStopsOnlyByLocking := by
  intro s
  cases hlocked : s.cpu.locked with
  | some op => exact .inr (.inl ⟨op, rfl, step_of_locked hlocked⟩)
  | none =>
    obtain ⟨hstop, hidle⟩ := suspendedStepsIdleFourCycles s hlocked
    cases hstopped : s.cpu.stopped with
    | true => exact .inl ⟨_, hstop hstopped⟩
    | false =>
      cases hhalt : s.cpu.halt with
      | true => exact .inl ⟨_, hidle hstopped hhalt⟩
      | false =>
        have hrun : Running s := ⟨hhalt, hstopped, hlocked⟩
        exact (step_of_running hrun).imp_right fun ⟨hop, hfault⟩ => .inr ⟨hrun, hop, hfault⟩

end Sys2Proof.Machine
end

section
/-! PROOF. The interrupt check (R432 to R434, R440 to R442): when it does nothing, which source it takes, and what taking it does. -/

namespace Sys2Proof.Machine

/-! ### The pending mask (R433) -/

theorem getLsbD_pendingEnabled (s : State) {k : Nat} (hk : k < 5) :
    (pendingEnabled s).getLsbD k = (s.ie.getLsbD k && s.iflag.getLsbD k) := by
  simp [pendingEnabled, hk]

/-- The lowest source that is both pending and enabled is the one served (R434). -/
theorem lowestSet_pendingEnabled {s : State} {k : Nat} (hk : k < 5) (hie : s.ie.getLsbD k = true) (hif : s.iflag.getLsbD k = true)
    (hlow : ∀ j < k, s.ie.getLsbD j = false ∨ s.iflag.getLsbD j = false) : lowestSet (pendingEnabled s) = k := by
  refine lowestSet_eq _ k hk ?_ fun j hj => ?_
  · rw [getLsbD_pendingEnabled s hk, hie, hif, Bool.and_self]
  · rw [getLsbD_pendingEnabled s (hj.trans hk), Bool.and_eq_false_iff]
    exact hlow j hj

/-! ### Taking an interrupt (R440 to R442) -/

/-- Acknowledging source k clears its IF bit and no other. -/
theorem getLsbD_acknowledged (f : BitVec 5) (k : Nat) {j : Nat} (hj : j < 5) :
    (f &&& ~~~(1#5 <<< k)).getLsbD j = (f.getLsbD j && decide (j ≠ k)) := by
  have hmask : (1#5 <<< k).getLsbD j = (decide (k < 5) && decide (k = j)) := BitVec.getLsbD_twoPow k j
  have hbit : (1#5 <<< k).getLsbD j = decide (j = k) := by
    rw [hmask, ← Bool.decide_and]
    exact decide_eq_decide.mpr (by omega)
  rw [BitVec.getLsbD_and, BitVec.getLsbD_not, hbit, decide_eq_true hj, Bool.true_and, decide_not]

/-- The two bus writes of a push read only SP of the CPU's record. -/
theorem pushed_withCpu (v : Word16) (s : State) (c : Cpu) :
    Claims.pushed v { s with cpu := c } =
      { busWrite (c.sp - 2) (lowByte v) (busWrite (c.sp - 1) (highByte v) s) with cpu := { c with sp := c.sp - 2 } } := by
  rw [Claims.pushed, busWrite_withCpu (c.sp - 1) _ s c, busWrite_withCpu]

/-- Taking source k is its acknowledgement, the two bus writes of PC, and the change of SP and PC. -/
theorem takeInterrupt_eq (k : Nat) (s : State) :
    takeInterrupt k s =
      { busWrite (s.cpu.sp - 2) (lowByte s.cpu.pc)
          (busWrite (s.cpu.sp - 1) (highByte s.cpu.pc) { s with iflag := s.iflag &&& ~~~(1#5 <<< k) }) with
        cpu := { s.cpu with
          ime := false, enableNext := false, halt := false, haltDI := false, sp := s.cpu.sp - 2, pc := vector k } } := by
  rw [takeInterrupt, opCall_eq, acknowledge, pushed_withCpu _ { s with iflag := s.iflag &&& ~~~(1#5 <<< k) }]

/-! ### The check (R440) -/

theorem interruptCheck_suspended {s : State} (h : s.cpu.locked ≠ none ∨ s.cpu.stopped = true) : interruptCheck s = s := by
  refine if_pos ?_
  rwa [Bool.or_eq_true_iff, Option.isSome_iff_ne_none]

theorem interruptCheck_idle {s : State} (h : pendingEnabled s = 0) : interruptCheck s = s := by
  unfold interruptCheck
  rw [if_pos h, ite_self]

/-- With a source pending and enabled, a machine that is neither locked nor stopped serves it under IME and else leaves HALT. -/
theorem interruptCheck_pending {s : State} (hlocked : s.cpu.locked = none) (hstopped : s.cpu.stopped = false)
    (h : pendingEnabled s ≠ 0) :
    interruptCheck s =
      if s.cpu.ime then updateCycles 20 (takeInterrupt (lowestSet (pendingEnabled s)) s)
      else if s.cpu.halt then wake s else s := by
  unfold interruptCheck
  rw [if_neg (by simp [hlocked, hstopped]), if_neg h]

/-- Settles O35: the check is decided by the pending mask, whose lowest set bit is the source taken. -/
theorem interruptCheckDispatchesTheLowestSource : Obligations.InterruptCheckDispatchesTheLowestSource := by
  intro s
  refine ⟨interruptCheck_suspended, fun hnone => interruptCheck_idle ((pendingEnabled_eq_zero s).mpr hnone), ?_⟩
  intro hlocked hstopped k hk hie hif hlow
  rw [interruptCheck_pending hlocked hstopped ((pendingEnabled_ne_zero s).mpr ⟨k, hk, hie, hif⟩)]
  refine ⟨fun hime => ⟨_, fun j => getLsbD_acknowledged s.iflag k, ?_⟩, fun hime hhalt => ?_, fun hime hhalt => ?_⟩
  · rw [if_pos hime, lowestSet_pendingEnabled hk hie hif hlow, takeInterrupt_eq, vector]
  · rw [if_neg (Bool.eq_false_iff.mp hime), if_pos hhalt]
    rfl
  · rw [if_neg (Bool.eq_false_iff.mp hime), if_neg (Bool.eq_false_iff.mp hhalt)]

end Sys2Proof.Machine
end

section
/-! PROOF. What advancing the devices leaves alone (R433, R675, R692, R694): the IF bits already set and those of serial and joypad, wave
RAM, the samples already in the ring. -/

namespace Sys2Proof.Machine

/-! ### Requests of the devices (R433, R692) -/

/-- IF after requests of the PPU and the timer: no bit is cleared, and those of serial and joypad are as before. -/
structure DeviceRequests (before after : BitVec 5) : Prop where
  pending : ∀ k, before.getLsbD k = true → after.getLsbD k = true
  serial : after.getLsbD serialBit = before.getLsbD serialBit
  joypad : after.getLsbD joypadBit = before.getLsbD joypadBit

theorem DeviceRequests.refl (f : BitVec 5) : DeviceRequests f f := ⟨fun _ h => h, rfl, rfl⟩

/-- Requesting a source below serial adds a device request. -/
theorem requestInterrupt_requests {f : BitVec 5} {s : State} {b : Nat} (hb : b < serialBit) (h : DeviceRequests f s.iflag) :
    DeviceRequests f (requestInterrupt b s).iflag := by
  have hmask : ∀ b < serialBit, (1#5 <<< b).getLsbD serialBit = false ∧ (1#5 <<< b).getLsbD joypadBit = false := by decide
  obtain ⟨hserial, hjoypad⟩ := hmask b hb
  refine ⟨fun k hk => ?_, ?_, ?_⟩
  · rw [requestInterrupt_iflag, BitVec.getLsbD_or, h.pending k hk, Bool.true_or]
  · rw [requestInterrupt_iflag, BitVec.getLsbD_or, hserial, Bool.or_false, h.serial]
  · rw [requestInterrupt_iflag, BitVec.getLsbD_or, hjoypad, Bool.or_false, h.joypad]

section
variable {f : BitVec 5} {s : State} (h : DeviceRequests f s.iflag)
include h

theorem checkLyc_requests : DeviceRequests f (checkLyc s).iflag :=
  ite_keeps (P := fun t : State => DeviceRequests f t.iflag) h fun _ =>
    requestInterrupt_requests (s := { s with ppu.coincidence := _ }) (by decide) h

theorem statIf_requests (enabled : Bool) : DeviceRequests f (statIf enabled s).iflag :=
  ite_keeps (P := fun t : State => DeviceRequests f t.iflag) h fun _ => requestInterrupt_requests (by decide) h

/-- The end of a visible line requests VBlank and LCD STAT only. -/
theorem endVisibleLine_requests : DeviceRequests f (endVisibleLine s).iflag := by
  have hlyc : DeviceRequests f (checkLyc { s with ppu.lineCycle := 0, ppu.ly := s.ppu.ly + 1 }).iflag := checkLyc_requests h
  unfold endVisibleLine
  dsimp only
  split
  · refine statIf_requests (requestInterrupt_requests (by decide) ?_) _
    exact hlyc
  · refine statIf_requests ?_ _
    exact hlyc

theorem endVBlankLine_requests : DeviceRequests f (endVBlankLine s).iflag := by
  unfold endVBlankLine
  split
  · refine checkLyc_requests (statIf_requests ?_ _)
    exact h
  · refine checkLyc_requests ?_
    exact h

theorem enterHBlank_requests : DeviceRequests f (enterHBlank s).iflag :=
  statIf_requests (s := { s with ppu.mode := .hBlank }) h _

theorem lcdOnCycle_requests : DeviceRequests f (lcdOnCycle s).iflag := by
  have hnext : DeviceRequests f ({ s with ppu.lineCycle := s.ppu.lineCycle + 1 } : State).iflag := h
  unfold lcdOnCycle
  dsimp only
  split <;> split
  case h_2.isTrue => exact enterHBlank_requests hnext
  case h_3.isTrue => exact endVisibleLine_requests hnext
  case h_4.isTrue => exact endVBlankLine_requests hnext
  all_goals exact h

/-- With the display off the PPU requests nothing. -/
theorem lcdOffCycle_requests : DeviceRequests f (lcdOffCycle s).iflag := by
  unfold lcdOffCycle endOffLine
  dsimp only
  repeat' split
  all_goals exact h

theorem ppuCycle_requests : DeviceRequests f (ppuCycle s).iflag := by
  unfold ppuCycle
  split
  · exact lcdOnCycle_requests h
  · exact lcdOffCycle_requests h

/-- A timer step requests the timer's interrupt only. -/
theorem timerStep_requests : DeviceRequests f (timerStep s).iflag :=
  ite_keeps (P := fun t : State => DeviceRequests f t.iflag) h fun _ => requestInterrupt_requests (by decide) h

end

theorem updateCycles_requests (n : Nat) (s : State) : DeviceRequests s.iflag (updateCycles n s).iflag := by
  obtain ⟨d, m, hdma⟩ := dmaUpdate_frame n s
  have hstart : DeviceRequests s.iflag (dmaUpdate n s).iflag := by
    rw [hdma]
    exact .refl s.iflag
  have htimer : DeviceRequests s.iflag (timerUpdate n (ppuUpdate n (dmaUpdate n s))).iflag :=
    timerUpdate_keeps (P := fun t => DeviceRequests s.iflag t.iflag) (fun _ => timerStep_requests) n
      (ppuUpdate_keeps (P := fun t => DeviceRequests s.iflag t.iflag) (fun _ => ppuCycle_requests) n hstart)
  obtain ⟨a, x, hapu⟩ := apuUpdate_frame n (timerUpdate n (ppuUpdate n (dmaUpdate n s)))
  rw [updateCycles, hapu]
  exact htimer

/-! ### The sample ring (R694) -/

/-- Each tick puts one pair before those already there. -/
theorem apuTicks_samples (k t : Nat) (s : State) : ∃ new, (apuTicks k t s).samples = new ++ s.samples ∧ new.length = k := by
  induction k generalizing t s with
  | zero => exact ⟨[], rfl, rfl⟩
  | succ k ih =>
    obtain ⟨new, happend, hlength⟩ :=
      ih (t + 2) { s with apu := s.apu.tick (t + 2), samples := (s.apu.tick (t + 2)).mix :: s.samples }
    refine ⟨new ++ [(s.apu.tick (t + 2)).mix], ?_, ?_⟩
    · rw [apuTicks, happend, List.append_assoc, List.singleton_append]
    · rw [List.length_append, hlength, List.length_singleton]

theorem updateCycles_samples (n : Nat) (s : State) :
    ∃ new, (updateCycles n s).samples = new ++ s.samples ∧ new.length = n / 2 := by
  obtain ⟨d, m, hdma⟩ := dmaUpdate_frame n s
  obtain ⟨p, fb, k, hppu⟩ := ppuUpdate_frame n (dmaUpdate n s)
  obtain ⟨tm, k', htimer⟩ := timerUpdate_frame n (ppuUpdate n (dmaUpdate n s))
  have hbefore : (timerUpdate n (ppuUpdate n (dmaUpdate n s))).samples = s.samples := by rw [htimer, hppu, hdma]
  rw [← hbefore]
  exact apuTicks_samples (n / 2) _ _

/-! ### Wave RAM (R692) -/

theorem sequencerTick_waveRam (p : Apu) : p.sequencerTick.ch3.ram = p.ch3.ram := by
  unfold Apu.sequencerTick
  split
  · exact frameSequencerStep_waveRam _
  · rfl

theorem channelClocks_waveRam (t : Nat) (p : Apu) : (p.channelClocks t).ch3.ram = p.ch3.ram :=
  ite_keeps (P := fun ch : Wave => ch.ram = p.ch3.ram) rfl fun _ => Wave.clock_ram t p.ch3

theorem tick_waveRam (t : Nat) (p : Apu) : (p.tick t).ch3.ram = p.ch3.ram :=
  ite_keeps (P := fun q : Apu => q.ch3.ram = p.ch3.ram) rfl fun _ => (channelClocks_waveRam t _).trans (sequencerTick_waveRam p)

theorem updateCycles_waveRam (n : Nat) (s : State) : (updateCycles n s).apu.ch3.ram = s.apu.ch3.ram :=
  updateCycles_keeps_apu (P := fun p => p.ch3.ram = s.apu.ch3.ram) (fun t p h => (tick_waveRam t p).trans h) n rfl

/-- Settles O51: IF by the requests, the ring by the ticks, wave RAM by the channel's clock; the rest is no part of a device's record. -/
theorem deviceUpdatesKeepCpuAndPendingBits : Obligations.DeviceUpdatesKeepCpuAndPendingBits := by
  intro n s t
  obtain ⟨hpending, hserial, hjoypad⟩ := updateCycles_requests n s
  refine ⟨hpending, hserial, hjoypad, updateCycles_cycles n s, updateCycles_samples n s, updateCycles_waveRam n s, ?_⟩
  obtain ⟨d, m, p, fb, k, tm, a, x, hframe⟩ := updateCycles_frame n s
  have ht : t = _ := hframe
  rw [ht]
  exact ⟨rfl, rfl, rfl, rfl, rfl, rfl, rfl, rfl, rfl, rfl, rfl⟩

end Sys2Proof.Machine
end

section
/-! PROOF. The timer (R481 to R487): the tap bit behind its mask, one timer step, and the register writes with their glitched counts. -/

namespace Sys2Proof.Machine

open Claims

/-! ### The tap bit (R483) -/

/-- The mask of the model has the one bit that the clock select watches. -/
theorem tapMask_eq_twoPow (c : BitVec 2) : tapMask c = BitVec.twoPow 16 (tapBit c) := by
  revert c
  decide

theorem twoPow_tapBit_ne_zero (c : BitVec 2) : BitVec.twoPow 16 (tapBit c) ≠ 0 := by
  revert c
  decide

/-- Masking a word with the tap's mask tests the tap bit. -/
theorem and_tapMask_ne_zero_iff (x : Word16) (c : BitVec 2) : x &&& tapMask c ≠ 0 ↔ x.getLsbD (tapBit c) = true := by
  rw [tapMask_eq_twoPow, BitVec.and_twoPow]
  split
  · next h => exact iff_of_true (twoPow_tapBit_ne_zero c) h
  · next h => exact iff_of_false (not_not_intro rfl) h

/-- The clock selects watch bits of the divider. -/
theorem tapBit_lt (c : BitVec 2) : tapBit c < 16 := by
  revert c
  decide

/-- The edge test of R481 holds when the tap bit falls: it was 1 and becomes 0. -/
theorem tapEdge_iff (old new : Word16) (c : BitVec 2) :
    (old ^^^ new) &&& ~~~new &&& tapMask c ≠ 0 ↔ (old.getLsbD (tapBit c) && !new.getLsbD (tapBit c)) = true := by
  rw [and_tapMask_ne_zero_iff, BitVec.getLsbD_and, BitVec.getLsbD_xor, BitVec.getLsbD_not, decide_eq_true (tapBit_lt c)]
  cases old.getLsbD (tapBit c) <;> cases new.getLsbD (tapBit c) <;> decide

theorem Timer.observedTap_eq (t : Timer) : t.observedTap = (t.on && t.divCounter.getLsbD (tapBit t.clockSelect)) := by
  rw [Timer.observedTap, Bool.eq_iff_iff, Bool.and_eq_true, Bool.and_eq_true, decide_eq_true_iff, and_tapMask_ne_zero_iff]

/-! ### Counting and reloading (R481, R482) -/

/-- TIMA counts by one; a wrap from 0xFF leaves an overflow pending, and one that was pending stays (R482). -/
theorem Timer.increment_eq (t : Timer) :
    t.increment = { t with tima := t.tima + 1, timaOverflow := t.timaOverflow || decide (t.tima = 0xFF) } := by
  have wraps : t.tima + 1 = 0 ↔ t.tima = 0xFF := by bv_omega
  unfold Timer.increment
  simp only [wraps]
  split
  · next h => rw [decide_eq_true h, Bool.or_true]
  · next h => rw [decide_eq_false h, Bool.or_false]

/-- A due reload takes TMA into TIMA and leaves no overflow pending. -/
theorem Timer.reload_eq (t : Timer) :
    t.reload =
      { t with tima := if t.reloadDue then t.tma else t.tima, timaOverflow := t.timaOverflow && !t.reloadDue } := by
  unfold Timer.reload
  cases t.reloadDue
  case false => rw [Bool.not_false, Bool.and_true]; rfl
  case true => rw [Bool.not_true, Bool.and_false]; rfl

/-- A count under a condition, field by field. -/
theorem Timer.ite_increment_eq (count : Bool) (t : Timer) :
    (if count then t.increment else t) =
      { t with
        tima := if count then t.tima + 1 else t.tima
        timaOverflow := t.timaOverflow || (count && decide (t.tima = 0xFF)) } := by
  cases count
  case false => rw [Bool.false_and, Bool.or_false]; rfl
  case true => exact t.increment_eq

/-- The divider moves by 4, and TIMA counts when the timer is on and the tap bit falls. -/
theorem Timer.divide_eq (t : Timer) :
    t.divide =
      if t.on && t.divCounter.getLsbD (tapBit t.clockSelect) && !(t.divCounter + 4).getLsbD (tapBit t.clockSelect) then
        { t with divCounter := t.divCounter + 4 }.increment
      else { t with divCounter := t.divCounter + 4 } := by
  unfold Timer.divide
  simp only [tapEdge_iff, Bool.and_assoc, Bool.and_eq_true, and_comm (b := t.on = true)]

/-- Settles O42: the reload and its request, then the divider with its falling-edge detector. -/
theorem timerStepReloadsThenCounts : Obligations.TimerStepReloadsThenCounts := by
  intro s
  dsimp only
  rw [timerStep_eq, Timer.divide_eq, Timer.ite_increment_eq, Timer.reload_eq]
  rfl

/-! ### Register writes (R484 to R487) -/

theorem Timer.writeDiv_eq (t : Timer) :
    t.writeDiv =
      if t.on && t.divCounter.getLsbD (tapBit t.clockSelect) then { t with divCounter := 0 }.increment
      else { t with divCounter := 0 } := by
  unfold Timer.writeDiv
  simp only [and_tapMask_ne_zero_iff, Bool.and_eq_true, and_comm (b := t.on = true)]

theorem Timer.writeTac_eq (v : Byte) (t : Timer) :
    t.writeTac v =
      if (t.on && t.divCounter.getLsbD (tapBit t.clockSelect)) &&
          !(v.getLsbD 2 && t.divCounter.getLsbD (tapBit (v.extractLsb' 0 2))) then
        { t with on := v.getLsbD 2, clockSelect := v.extractLsb' 0 2 }.increment
      else { t with on := v.getLsbD 2, clockSelect := v.extractLsb' 0 2 } := by
  unfold Timer.writeTac
  simp only [Timer.observedTap_eq]

/-- With no transfer active a write to a mapped IO address is its register's write. -/
theorem busWrite_io {a : Word16} {r : IoReg} {s : State} (hr : ioReg a = some r) (hreg : region a = .io)
    (hd : s.dma.active = false) (v : Byte) : busWrite a v s = writeIo r v s := by
  rw [busWrite_open v (gateOpen_inactive hd), regionWrite_device (.inl hreg), deviceWrite_mapped hr]

/-- Settles O43: each address reaches its timer register, and DIV and TAC count when the tap falls under the write. -/
theorem timerRegisterWrites : Obligations.TimerRegisterWrites := by
  intro s v hd
  dsimp only
  refine ⟨?_, busWrite_io (r := .tima) rfl rfl hd v, busWrite_io (r := .tma) rfl rfl hd v, ?_⟩
  · rw [busWrite_io (r := .div) rfl rfl hd, writeIo, Timer.writeDiv_eq, Timer.increment_eq]
  · rw [busWrite_io (r := .tac) rfl rfl hd, writeIo, Timer.writeTac_eq, Timer.increment_eq]

end Sys2Proof.Machine
end

section
/-! PROOF. The OAM DMA engine (R500 to R503): one cycle in closed form, where a transfer stands after n cycles, and its counters. -/

namespace Sys2Proof.Machine

open Claims

/-! ### One cycle (R502) -/

/-- The cycle about to run ends on a multiple of 4, and a byte is left to copy (R502). -/
def Dma.copyDue (d : Dma) : Bool := decide ((d.cycles + 1) % 4 = 0 ∧ d.offset < 160)

/-- The engine after one cycle of an active transfer. -/
def Dma.cycle (d : Dma) : Dma :=
  { d with
    cycles := d.cycles + 1
    offset := if d.copyDue then d.offset + 1 else d.offset
    active := d.active && decide (d.cycles + 1 < 648) }

/-- One cycle moves the engine and copies the byte that is due; the source map reads neither OAM nor the engine. -/
theorem dmaCycle_eq (s : State) :
    dmaCycle s =
      { s with
        dma := s.dma.cycle
        oam := if s.dma.copyDue then s.oam.write s.dma.offset (dmaSourceRead (s.dma.source + BitVec.ofNat 16 s.dma.offset) s)
          else s.oam } := by
  unfold dmaCycle dmaCopy Dma.cycle Dma.copyDue
  by_cases hcopy : (s.dma.cycles + 1) % 4 = 0 ∧ s.dma.offset < 160 <;>
    obtain hlast | hlast := Nat.lt_or_ge (s.dma.cycles + 1) 648
  · simp only [hcopy, hlast, Nat.not_le.mpr hlast, and_self, if_true, if_false, decide_true, Bool.and_true]
    rfl
  · simp only [hcopy, hlast, Nat.not_lt.mpr hlast, and_self, if_true, decide_true, decide_false, Bool.and_false]
    rfl
  · simp only [hcopy, hlast, Nat.not_le.mpr hlast, if_false, decide_true, decide_false, Bool.false_eq_true, Bool.and_true]
  · simp only [hcopy, hlast, Nat.not_lt.mpr hlast, if_true, if_false, decide_false, Bool.false_eq_true, Bool.and_false]

/-- Byte k is copied at cycle 4(k+1), so the offset is a quarter of the cycles until all 160 bytes are copied (D14). -/
theorem dmaOffset_succ (n : Nat) :
    (if (n + 1) % 4 = 0 ∧ min (n / 4) 160 < 160 then min (n / 4) 160 + 1 else min (n / 4) 160) = min ((n + 1) / 4) 160 := by
  split <;> omega

/-! ### The counters at every step -/

/-- A fresh transfer has copied nothing (R501). -/
theorem dmaOk_start (v : Byte) : DmaOk (Dma.start v) := ⟨Nat.zero_le _, by simp [Dma.start], fun _ => Nat.succ_pos _⟩

theorem DmaOk.cycle {d : Dma} (h : DmaOk d) (ha : d.active = true) : DmaOk d.cycle := by
  refine ⟨h.active ha, ?_, fun hactive => of_decide_eq_true (Bool.and_eq_true_iff.mp hactive).2⟩
  show (if d.copyDue then d.offset + 1 else d.offset) = min ((d.cycles + 1) / 4) 160
  rw [← dmaOffset_succ, Dma.copyDue, h.offset]
  simp only [decide_eq_true_eq]

/-- A bus write leaves the engine alone or starts a transfer. -/
theorem busWrite_dma (a : Word16) (v : Byte) (s : State) : (busWrite a v s).dma = s.dma ∨ (busWrite a v s).dma = Dma.start v := by
  unfold busWrite
  split
  · cases hr : region a <;> simp only [regionWrite, hr]
    case io | apu =>
      unfold deviceWrite
      split
      next r _ =>
        by_cases hd : r = .dma
        · exact .inr (by rw [hd]; rfl)
        · exact .inl (writeIo_dma hd v s)
      · exact .inl rfl
    case eram =>
      obtain ⟨m, he⟩ := eramWrite_frame a v s
      exact .inl (by rw [he])
    case vram | oam => left; split <;> rfl
    all_goals exact .inl trivial
  · exact .inl rfl

/-- Of the devices only the engine itself moves its counters. -/
theorem updateCycles_dma (n : Nat) (s : State) : (updateCycles n s).dma = (dmaUpdate n s).dma := by
  obtain ⟨p, fb, k, hppu⟩ := ppuUpdate_frame n (dmaUpdate n s)
  obtain ⟨tm, k', htimer⟩ := timerUpdate_frame n (ppuUpdate n (dmaUpdate n s))
  obtain ⟨a, x, hapu⟩ := apuUpdate_frame n (timerUpdate n (ppuUpdate n (dmaUpdate n s)))
  rw [updateCycles, hapu, htimer, hppu]

/-- Settles O56: a bus write starts a transfer afresh or leaves the engine alone, and each cycle keeps the counters. -/
theorem everyStepKeepsTheDmaCounters : Obligations.EveryStepKeepsTheDmaCounters := fun _ _ h hstep => by
  refine step_keeps (P := fun u => DmaOk u.dma) (fun _ _ hu => hu) (fun a v u hu => ?_) (fun _ _ hu => hu) (fun n u hu => ?_) h hstep
  · obtain he | he := busWrite_dma a v u <;> rw [he]
    · exact hu
    · exact dmaOk_start v
  · rw [updateCycles_dma]
    refine dmaUpdate_keeps (P := fun w => DmaOk w.dma) (fun w hw ha => ?_) n hu
    rw [dmaCycle_eq]
    exact hw.cycle ha

/-! ### A transfer (R500 to R503) -/

/-- The engine n cycles after a write of v to its register. -/
def Dma.afterCycles (v : Byte) (n : Nat) : Dma :=
  { reg := v, active := decide (n < 648), source := v ++ 0#8, offset := min (n / 4) 160, cycles := n }

theorem Dma.cycle_afterCycles (v : Byte) {n : Nat} (hn : n < 648) : (Dma.afterCycles v n).cycle = Dma.afterCycles v (n + 1) := by
  simp only [Dma.cycle, Dma.copyDue, Dma.afterCycles, decide_eq_true_eq, dmaOffset_succ, hn, decide_true, Bool.true_and]

theorem Dma.copyDue_afterCycles (v : Byte) (n : Nat) :
    (Dma.afterCycles v n).copyDue = decide ((n + 1) % 4 = 0 ∧ min (n / 4) 160 < 160) := rfl

/-- `t` is `s` n cycles into a transfer from v<<8: only the engine and OAM differ, and OAM holds the bytes copied so far. -/
def InTransfer (s : State) (v : Byte) (n : Nat) (t : State) : Prop :=
  ∃ m : Memory, t = { s with dma := Dma.afterCycles v n, oam := m } ∧
    ∀ k < min (n / 4) 160, m.read k = dmaSourceRead (v ++ 0#8 + BitVec.ofNat 16 k) s

theorem inTransfer_start (s : State) (v : Byte) : InTransfer s v 0 { s with dma := Dma.start v } :=
  ⟨s.oam, rfl, fun k hk => absurd hk (Nat.not_lt_zero k)⟩

theorem InTransfer.cycle {s t : State} {v : Byte} {n : Nat} (h : InTransfer s v n t) (hn : n < 648) :
    InTransfer s v (n + 1) (dmaCycle t) := by
  obtain ⟨m, rfl, hm⟩ := h
  refine ⟨_, (dmaCycle_eq _).trans (by rw [Dma.cycle_afterCycles v hn]), fun k hk => ?_⟩
  rw [← dmaOffset_succ] at hk
  show (if (Dma.afterCycles v n).copyDue then m.write (min (n / 4) 160) (dmaSourceRead (v ++ 0#8 + BitVec.ofNat 16 (min (n / 4) 160)) s)
    else m).read k = _
  by_cases hdue : (n + 1) % 4 = 0 ∧ min (n / 4) 160 < 160
  · rw [if_pos hdue] at hk
    rw [Dma.copyDue_afterCycles, if_pos (decide_eq_true hdue)]
    obtain hlt | rfl := Nat.lt_succ_iff_lt_or_eq.mp hk
    · rw [Memory.read_write_ne _ _ (Nat.ne_of_lt hlt), hm k hlt]
    · rw [Memory.read_write_same]
  · rw [if_neg hdue] at hk
    rw [Dma.copyDue_afterCycles, if_neg (mt of_decide_eq_true hdue)]
    exact hm k hk

theorem InTransfer.active {s t : State} {v : Byte} {n : Nat} (h : InTransfer s v n t) : t.dma.active = decide (n < 648) := by
  obtain ⟨m, rfl, -⟩ := h
  rfl

/-- A transfer runs on until its 648 cycles are over. -/
theorem InTransfer.update {s t : State} {v : Byte} {n k : Nat} (h : InTransfer s v n t) (hk : n + k ≤ 648) :
    InTransfer s v (n + k) (dmaUpdate k t) := by
  induction k generalizing n t with
  | zero => exact h
  | succ k ih =>
    have hn : n < 648 := by omega
    rw [dmaUpdate, if_pos (h.active.trans (decide_eq_true hn)), Nat.add_comm k 1, ← Nat.add_assoc]
    exact ih (h.cycle hn) (by omega)

/-- The source map is 0xFF from OAM up, and below it the bus with both gates open (R503). -/
theorem dmaSourceRead_map (s : State) (a : Word16) :
    (0xFE00 ≤ a.toNat → dmaSourceRead a s = 0xFF) ∧
      (a.toNat < 0xFE00 → dmaSourceRead a s = busRead a { s with dma.active := false, ppu.mode := .hBlank }) := by
  rw [busRead_open (gateOpen_inactive rfl), regionRead, dmaSourceRead]
  have ha := region_range a
  cases hr : region a <;> rw [hr] at ha <;> dsimp only [Region.Range] at ha ⊢
  case oam | unused | io | apu | wave | hram => exact ⟨fun _ => rfl, fun h => by omega⟩
  all_goals exact ⟨fun h => by omega, fun _ => rfl⟩

/-- Settles O44: a write of the register starts a transfer, and `InTransfer` says where it stands after each of its cycles. -/
theorem dmaCopiesOamIn648Cycles : Obligations.DmaCopiesOamIn648Cycles := by
  refine ⟨fun s v hg => ?_, dmaSourceRead_map⟩
  dsimp only
  rw [busWrite_open v hg, regionWrite_device (.inl rfl), deviceWrite_mapped (r := .dma) rfl]
  have run : ∀ n ≤ 648, InTransfer s v n (dmaUpdate n (writeIo .dma v s)) := fun n hn => by
    have := (inTransfer_start s v).update (k := n) (by omega)
    rwa [Nat.zero_add] at this
  refine ⟨⟨rfl, rfl, fun n hn => (run n hn.le).active.trans (decide_eq_true hn)⟩, (run 648 le_rfl).active, ?_⟩
  obtain ⟨m, ht, hm⟩ := run 648 le_rfl
  rw [ht]
  exact ⟨hm, rfl⟩

end Sys2Proof.Machine
end

section
/-! PROOF. The PPU's way round the frame (R520 to R522, R533) and the display switch (R530, R535). -/

namespace Sys2Proof.Machine

/-! ### The VBlank bit of IF -/

/-- The LCD STAT request leaves the VBlank bit alone. -/
theorem statRequest_vblank (b : Bool) (f : BitVec 5) : (if b then f ||| (1#5 <<< statBit) else f).getLsbD 0 = f.getLsbD 0 := by
  have hmask : (1#5 <<< statBit).getLsbD 0 = false := by decide
  split
  · rw [BitVec.getLsbD_or, hmask, Bool.or_false]
  · rfl

theorem vblankRequest_vblank (f : BitVec 5) : (f ||| (1#5 <<< vblankBit)).getLsbD 0 = true := by
  have hmask : (1#5 <<< vblankBit).getLsbD 0 = true := by decide
  rw [BitVec.getLsbD_or, hmask, Bool.or_true]

/-! ### One cycle of the frame -/

/-- The cycle of the frame that a display-on PPU is at, 456 to a line (R520). -/
def Ppu.framePosition (p : Ppu) : Nat := p.ly.toNat * 456 + p.lineCycle

/-- What one display-on cycle does: one position on round the frame, a frame counted at the wrap, VBlank raised on reaching line 144. -/
structure FrameStep (s t : State) : Prop where
  on : t.ppu.displayOn = true
  position : t.ppu.framePosition = (s.ppu.framePosition + 1) % 70224
  frames : t.ppu.frameCounter = s.ppu.frameCounter + (s.ppu.framePosition + 1) / 70224
  vblank : t.iflag.getLsbD 0 = (s.iflag.getLsbD 0 || decide (s.ppu.framePosition + 1 = 144 * 456))

section
variable {s t : State}

theorem FrameStep.statIf (h : FrameStep s t) (b : Bool) : FrameStep s (statIf b t) := by
  rw [statIf_eq]
  exact ⟨h.on, h.position, h.frames, (statRequest_vblank _ _).trans h.vblank⟩

theorem FrameStep.checkLyc (h : FrameStep s t) : FrameStep s (checkLyc t) := by
  rw [checkLyc_eq]
  exact ⟨h.on, h.position, h.frames, (statRequest_vblank _ _).trans h.vblank⟩

/-- Inside a line only the cycle moves. -/
theorem FrameStep.within (hs : PpuOk s) (hc : s.ppu.lineCycle + 1 < 456) (hd : t.ppu.displayOn = true) (hy : t.ppu.ly = s.ppu.ly)
    (ht : t.ppu.lineCycle = s.ppu.lineCycle + 1) (hf : t.ppu.frameCounter = s.ppu.frameCounter) (hi : t.iflag = s.iflag) :
    FrameStep s t := by
  have hly := hs.ly
  refine ⟨hd, ?_, ?_, ?_⟩
  · rw [Ppu.framePosition, Ppu.framePosition, hy, ht]
    omega
  · rw [hf, Ppu.framePosition]
    omega
  · have hne : s.ppu.framePosition + 1 ≠ 144 * 456 := by
      rw [Ppu.framePosition]
      omega
    rw [hi, decide_eq_false hne, Bool.or_false]

/-- At the end of a line the next one starts, and after line 153 the next frame. -/
theorem FrameStep.nextLine (hc : s.ppu.lineCycle + 1 = 456) (hd : t.ppu.displayOn = true)
    (hy : t.ppu.ly.toNat = (s.ppu.ly.toNat + 1) % 154) (ht : t.ppu.lineCycle = 0)
    (hf : t.ppu.frameCounter = s.ppu.frameCounter + (s.ppu.ly.toNat + 1) / 154)
    (hi : t.iflag.getLsbD 0 = (s.iflag.getLsbD 0 || decide (s.ppu.ly.toNat + 1 = 144))) : FrameStep s t := by
  have hpos : s.ppu.framePosition + 1 = (s.ppu.ly.toNat + 1) * 456 := by
    rw [Ppu.framePosition]
    omega
  refine ⟨hd, ?_, ?_, ?_⟩
  · rw [hpos, Ppu.framePosition, hy, ht]
    omega
  · rw [hpos, hf]
    omega
  · rw [hpos, hi]
    simp only [Nat.mul_left_inj (show (456 : Nat) ≠ 0 by decide)]

theorem endVisibleLine_frameStep (hc : s.ppu.lineCycle + 1 = 456) (hd : s.ppu.displayOn = true) (hy : s.ppu.ly.toNat < 144) :
    FrameStep s (endVisibleLine { s with ppu.lineCycle := s.ppu.lineCycle + 1 }) := by
  have hs := toNat_succ_of_lt (ly := s.ppu.ly) (by omega)
  have hmod : (s.ppu.ly + 1).toNat = (s.ppu.ly.toNat + 1) % 154 := by omega
  have hdiv : s.ppu.frameCounter = s.ppu.frameCounter + (s.ppu.ly.toNat + 1) / 154 := by omega
  unfold endVisibleLine
  simp only [checkLyc_eq]
  split
  next he =>
    have ht : s.ppu.ly.toNat + 1 = 144 := hs.symm.trans (congrArg BitVec.toNat he)
    refine FrameStep.statIf ?_ _
    refine .nextLine hc hd hmod rfl hdiv ?_
    rw [decide_eq_true ht, Bool.or_true]
    exact vblankRequest_vblank _
  next he =>
    have ht : ¬s.ppu.ly.toNat + 1 = 144 := fun e => he (BitVec.eq_of_toNat_eq (hs.trans e))
    refine FrameStep.statIf ?_ _
    refine .nextLine hc hd hmod rfl hdiv ?_
    rw [decide_eq_false ht, Bool.or_false]
    exact statRequest_vblank _ _

theorem endVBlankLine_frameStep (hc : s.ppu.lineCycle + 1 = 456) (hd : s.ppu.displayOn = true) (hy : 144 ≤ s.ppu.ly.toNat)
    (hl : s.ppu.ly.toNat < 154) : FrameStep s (endVBlankLine { s with ppu.lineCycle := s.ppu.lineCycle + 1 }) := by
  have hs := toNat_succ_of_lt hl
  have hi : s.iflag.getLsbD 0 = (s.iflag.getLsbD 0 || decide (s.ppu.ly.toNat + 1 = 144)) := by
    rw [decide_eq_false (by omega), Bool.or_false]
  unfold endVBlankLine
  split
  next he =>
    have ht : s.ppu.ly.toNat = 153 := congrArg BitVec.toNat he
    refine .checkLyc (.nextLine hc ?_ ?_ ?_ ?_ ?_) <;> rw [statIf_eq]
    · exact hd
    · rw [ht]; rfl
    · rw [ht]
    · exact (statRequest_vblank _ _).trans hi
  next he =>
    have ht : s.ppu.ly.toNat ≠ 153 := fun e => he (BitVec.eq_of_toNat_eq e)
    refine .checkLyc (.nextLine hc hd ?_ rfl ?_ hi)
    · show (s.ppu.ly + 1).toNat = _
      omega
    · show s.ppu.frameCounter = _
      omega

/-- Each mode moves on inside its line; HBlank and VBlank end it (R521). -/
theorem ppuCycle_frameStep (h : PpuOk s) (hd : s.ppu.displayOn = true) : FrameStep s (ppuCycle s) := by
  have hm := h.modeOn hd
  have hc := h.lineCycle
  rw [ppuCycle, if_pos hd]
  unfold lcdOnCycle
  dsimp only
  split
  next hs =>
    have hin : s.ppu.lineCycle + 1 < 456 := by
      have := modeAt_eq_oamScan.mp (hm.symm.trans hs)
      omega
    split <;> exact .within h hin hd rfl rfl rfl rfl
  next hs =>
    have hin : s.ppu.lineCycle + 1 < 456 := by
      have := modeAt_eq_transfer.mp (hm.symm.trans hs)
      omega
    split
    · refine FrameStep.statIf ?_ _
      exact .within h hin hd rfl rfl rfl rfl
    · exact .within h hin hd rfl rfl rfl rfl
  next hs =>
    split
    next he => exact endVisibleLine_frameStep he hd (modeAt_eq_hBlank.mp (hm.symm.trans hs)).1
    next he => exact .within h (Nat.lt_of_le_of_ne hc he) hd rfl rfl rfl rfl
  next hs =>
    split
    next he => exact endVBlankLine_frameStep he hd (modeAt_eq_vBlank.mp (hm.symm.trans hs)) h.ly
    next he => exact .within h (Nat.lt_of_le_of_ne hc he) hd rfl rfl rfl rfl

/-- n cycles are n steps round the frame. -/
theorem ppuUpdate_position (h : PpuOk s) (hd : s.ppu.displayOn = true) (n : Nat) :
    PpuOk (ppuUpdate n s) ∧ (ppuUpdate n s).ppu.displayOn = true ∧
      (ppuUpdate n s).ppu.framePosition = (s.ppu.framePosition + n) % 70224 ∧
      (ppuUpdate n s).ppu.frameCounter = s.ppu.frameCounter + (s.ppu.framePosition + n) / 70224 := by
  induction n with
  | zero =>
    have hlt : s.ppu.framePosition < 70224 := by
      have hly := h.ly
      have hc := h.lineCycle
      rw [Ppu.framePosition]
      omega
    rw [Nat.add_zero, Nat.mod_eq_of_lt hlt, Nat.div_eq_of_lt hlt]
    exact ⟨h, hd, rfl, rfl⟩
  | succ n ih =>
    obtain ⟨hok, hon, hpos, hframes⟩ := ih
    have step := ppuCycle_frameStep hok hon
    rw [ppuUpdate, Function.iterate_succ_apply']
    refine ⟨ppuCycle_ppuOk hok, step.on, step.position.trans ?_, step.frames.trans ?_⟩
    · rw [hpos]
      omega
    · rw [hpos, hframes]
      omega

/-- With the display off a cycle requests nothing (R535). -/
theorem lcdOffCycle_iflag (s : State) : (lcdOffCycle s).iflag = s.iflag := by
  unfold lcdOffCycle endOffLine
  dsimp only
  repeat' split
  all_goals rfl

end

/-- Settles O45: a display-on cycle is one step round the frame, and n of them are n steps; a display-off cycle leaves IF alone. -/
theorem ppuPositionAdvancesRoundTheFrame : Obligations.PpuPositionAdvancesRoundTheFrame := by
  refine ⟨fun s h hd => ⟨fun n => (ppuUpdate_position h hd n).2, (ppuCycle_frameStep h hd).vblank⟩, fun s hd => ?_⟩
  rw [ppuCycle, if_neg (Bool.eq_false_iff.mp hd)]
  exact lcdOffCycle_iflag s

/-! ### The display switch (R535) -/

theorem writeLcdc_off {v : Byte} {s : State} (hs : s.ppu.lcdc.getLsbD 7 = true) (hv : v.getLsbD 7 = false) :
    writeLcdc v s = { s with ppu := { s.ppu with lcdc := v, mode := .vBlank, ly := 0, lineCycle := 0, fakeLy := 0 } } := by
  unfold writeLcdc Ppu.displayOn
  simp only [hs, hv, Bool.not_false, Bool.and_self, if_true]

theorem writeLcdc_on {v : Byte} {s : State} (hs : s.ppu.lcdc.getLsbD 7 = false) (hv : v.getLsbD 7 = true) :
    writeLcdc v s =
      checkLyc { s with
        ppu := { s.ppu with
          lcdc := v, mode := .oamScan, ly := 0, lineCycle := 0, cachedWy := s.ppu.wy, windowLine := 0 } } := by
  unfold writeLcdc Ppu.displayOn
  simp only [hs, hv, Bool.not_true, Bool.not_false, Bool.and_self, Bool.false_eq_true, if_false, if_true]

theorem writeLcdc_same {v : Byte} {s : State} (h : s.ppu.lcdc.getLsbD 7 = v.getLsbD 7) :
    writeLcdc v s = { s with ppu := { s.ppu with lcdc := v } } := by
  unfold writeLcdc Ppu.displayOn
  simp only [h, Bool.and_not_self, Bool.not_and_self, Bool.false_eq_true, if_false]

/-- Settles O46: the write is `LcdcWrite`, by the display bit before and after it; switching on ends in the compare. -/
theorem lcdcWriteSwitchesTheDisplay : Obligations.LcdcWriteSwitchesTheDisplay := by
  intro s v hd
  dsimp only
  rw [busWrite_io (r := .lcdc) rfl rfl hd]
  refine ⟨writeLcdc_lcdc v s, writeLcdc_off, fun hs hv => ?_, writeLcdc_same⟩
  have hit : ((0 : Byte) == s.ppu.lyc) = decide (s.ppu.lyc = 0) := by
    rw [Bool.beq_eq_decide_eq]
    simp only [eq_comm]
  rw [writeIo, writeLcdc_on hs hv, checkLyc_eq]
  simp only [hit, Ppu.lycIrqOn, Bool.and_eq_true, decide_eq_true_eq]
  rfl

end Sys2Proof.Machine
end

section
/-! PROOF. The APU's power switch (R600, R620): what the zero writes of a power-off leave, and what is taken while off. -/

namespace Sys2Proof.Machine

open Claims

/-! ### A write of zero (R610, R620) -/

/-- A zero in NRx4 enables no length and so clocks none. -/
theorem extraLengthClock_zero (next was : Bool) (length : Nat) (status : Bool) :
    extraLengthClock next was 0 length status = (length, status) := by
  simp [extraLengthClock]

/-- What a write of zero can do to the lengths and to wave RAM: a length stays or becomes its maximum, and wave RAM stays. -/
structure ZeroWrite (p q : Apu) : Prop where
  length1 : q.ch1.length = p.ch1.length ∨ q.ch1.length = 64
  length2 : q.ch2.length = p.ch2.length ∨ q.ch2.length = 64
  length3 : q.ch3.length = p.ch3.length ∨ q.ch3.length = 256
  length4 : q.ch4.length = p.ch4.length ∨ q.ch4.length = 64
  waveRam : q.ch3.ram = p.ch3.ram

/-- NRx1 sets its length to the maximum (R603, R604); a zero in NRx4 triggers nothing. -/
theorem writeOn_zero (r : ApuReg) (c : Nat) (p : Apu) : ZeroWrite p (p.writeOn r 0 c) := by
  cases r
  case nr10 =>
    simp only [Apu.writeOn, Apu.writeNr10]
    split <;> exact ⟨.inl rfl, .inl rfl, .inl rfl, .inl rfl, rfl⟩
  case nr11 => exact ⟨.inr rfl, .inl rfl, .inl rfl, .inl rfl, rfl⟩
  case nr21 => exact ⟨.inl rfl, .inr rfl, .inl rfl, .inl rfl, rfl⟩
  case nr31 => exact ⟨.inl rfl, .inl rfl, .inr rfl, .inl rfl, rfl⟩
  case nr41 => exact ⟨.inl rfl, .inl rfl, .inl rfl, .inr rfl, rfl⟩
  case nr14 => exact ⟨.inl (congrArg Prod.fst (extraLengthClock_zero _ _ _ _)), .inl rfl, .inl rfl, .inl rfl, rfl⟩
  case nr24 => exact ⟨.inl rfl, .inl (congrArg Prod.fst (extraLengthClock_zero _ _ _ _)), .inl rfl, .inl rfl, rfl⟩
  case nr34 => exact ⟨.inl rfl, .inl rfl, .inl (congrArg Prod.fst (extraLengthClock_zero _ _ _ _)), .inl rfl, rfl⟩
  case nr44 => exact ⟨.inl rfl, .inl rfl, .inl rfl, .inl (congrArg Prod.fst (extraLengthClock_zero _ _ _ _)), rfl⟩
  all_goals exact ⟨.inl rfl, .inl rfl, .inl rfl, .inl rfl, rfl⟩

/-- A zero write of one register leaves what every other one reads as alone. -/
theorem read_writeOn_zero_ne {q r : ApuReg} (h : r ≠ q) (c : Nat) (p : Apu) : (p.writeOn q 0 c).read r = p.read r := by
  cases q
  case nr10 =>
    simp only [Apu.writeOn, Apu.writeNr10]
    split <;> cases r <;> first | contradiction | rfl
  all_goals cases r <;> first | contradiction | rfl

/-! ### Power-off (R620) -/

/-- The zero write of its own NRx1 sets a length to its maximum, and no other zero write changes it. -/
theorem zeroAll_lengths (c : Nat) (p : Apu) :
    (p.zeroAll c).ch1.length = 64 ∧ (p.zeroAll c).ch2.length = 64 ∧ (p.zeroAll c).ch3.length = 256 ∧ (p.zeroAll c).ch4.length = 64 :=
  ⟨zeroAll_reaches (P := (·.ch1.length = 64)) (fun q r h => (writeOn_zero r c q).length1.elim (·.trans h) id) .nr11 (fun _ => rfl) p,
   zeroAll_reaches (P := (·.ch2.length = 64)) (fun q r h => (writeOn_zero r c q).length2.elim (·.trans h) id) .nr21 (fun _ => rfl) p,
   zeroAll_reaches (P := (·.ch3.length = 256)) (fun q r h => (writeOn_zero r c q).length3.elim (·.trans h) id) .nr31 (fun _ => rfl) p,
   zeroAll_reaches (P := (·.ch4.length = 64)) (fun q r h => (writeOn_zero r c q).length4.elim (·.trans h) id) .nr41 (fun _ => rfl) p⟩

theorem zeroAll_waveRam (c : Nat) (p : Apu) : (p.zeroAll c).ch3.ram = p.ch3.ram :=
  List.foldlRecOn (motive := fun q : Apu => q.ch3.ram = p.ch3.ram) ApuReg.all _ rfl fun q hq r _ =>
    (writeOn_zero r c q).waveRam.trans hq

/-- Each register is written zero once, so at the end it reads as its unused bits (R47, R601). -/
theorem zeroAll_read (c : Nat) (p : Apu) (r : ApuReg) : (p.zeroAll c).read r = soundMask r := by
  have written : ∀ q : Apu, (q.writeOn r 0 c).read r = soundMask r := fun q => (Apu.read_writeOn r 0 c q).trans BitVec.zero_or
  refine zeroAll_reaches (P := (·.read r = soundMask r)) (fun q r' hq => ?_) r written p
  by_cases h : r = r'
  · rw [← h]
    exact written q
  · exact (read_writeOn_zero_ne h c q).trans hq

theorem writeNr52_off {p : Apu} {v : Byte} (hp : p.powered = true) (hv : v.getLsbD 7 = false) (c : Nat) :
    p.writeNr52 v c = { p.zeroAll c with powered := false } := by
  rw [Apu.writeNr52, if_pos (by rw [hp, hv]; rfl)]

theorem writeNr52_on {p : Apu} {v : Byte} (hp : p.powered = false) (hv : v.getLsbD 7 = true) (c : Nat) :
    p.writeNr52 v c = { p with powered := true, fsStep := 7, fsCounter := 0 } := by
  rw [Apu.writeNr52, if_neg (by simp [hp]), if_pos (by rw [hp, hv]; rfl)]

theorem writeNr52_same {p : Apu} {v : Byte} (h : p.powered = v.getLsbD 7) (c : Nat) : p.writeNr52 v c = p := by
  rw [Apu.writeNr52, if_neg (by simp [h]), if_neg (by simp [h])]

/-- No register but NR52 shows the power. -/
theorem Apu.read_powered (r : ApuReg) (p : Apu) (b : Bool) : { p with powered := b }.read r = p.read r := by cases r <;> rfl

/-- A silent, unpowered APU reads 0x70 in NR52 (R66). -/
theorem readNr52_silent {p : Apu} (hp : p.powered = false) (h1 : p.ch1.status = false) (h2 : p.ch2.status = false)
    (h3 : p.ch3.status = false) (h4 : p.ch4.status = false) : p.readNr52 = 0x70 := by
  rw [Apu.readNr52, hp, h1, h2, h3, h4]
  rfl

/-! ### While off (R600) -/

/-- The registers of which a write is taken while off: NR11, NR21, NR31 and NR41, which hold the lengths. -/
def ApuReg.holdsLength (r : ApuReg) : Bool :=
  match r with
  | .nr11 | .nr21 | .nr31 | .nr41 => true
  | .nr10 | .nr12 | .nr13 | .nr14 | .nr22 | .nr23 | .nr24 | .nr30 | .nr32 | .nr33 | .nr34
  | .nr42 | .nr43 | .nr44 | .nr50 | .nr51 => false

theorem writeOff_of_no_length {r : ApuReg} (h : r.holdsLength = false) (v : Byte) (p : Apu) : p.writeOff r v = p := by
  cases r
  case nr11 | nr21 | nr31 | nr41 => exact Bool.noConfusion h
  all_goals rfl

/-- The length part of NR11, NR21 and NR41 as a number (R603, R604). -/
theorem lengthBits_toNat (v : Byte) : (v.extractLsb' 0 6).toNat = v.toNat % 64 := by
  rw [BitVec.extractLsb'_toNat, Nat.shiftRight_zero]

/-- With no transfer active a read of a mapped APU address is its register's read. -/
theorem busRead_apu {a : Word16} {r : IoReg} {s : State} (hr : ioReg a = some r) (hreg : region a = .apu)
    (hd : s.dma.active = false) : busRead a s = readIo r s := by
  rw [busRead_open (gateOpen_inactive hd), regionRead_device (.inr hreg), deviceRead_mapped hr]

/-- And a write is its register's write. -/
theorem busWrite_apu {a : Word16} {r : IoReg} {s : State} (hr : ioReg a = some r) (hreg : region a = .apu)
    (hd : s.dma.active = false) (v : Byte) : busWrite a v s = writeIo r v s := by
  rw [busWrite_open v (gateOpen_inactive hd), regionWrite_device (.inr hreg), deviceWrite_mapped hr]

/-- While off a write of an APU register is `writeOff`. -/
theorem busWrite_sound_off {a : Word16} {r : ApuReg} {s : State} (hr : ioReg a = some (.sound r)) (hreg : region a = .apu)
    (hd : s.dma.active = false) (hp : s.apu.powered = false) (v : Byte) :
    busWrite a v s = { s with apu := s.apu.writeOff r v } := by
  rw [busWrite_apu hr hreg hd, writeIo, Apu.write, if_neg (Bool.eq_false_iff.mp hp)]

/-- Settles O47: switching off is the zero writes and the power bit; switching on restarts the sequencer; while off only `writeOff`
acts. -/
theorem apuPowerSwitch : Obligations.ApuPowerSwitch := by
  intro s v hd
  dsimp only
  rw [busWrite_apu (r := .nr52) rfl rfl hd, writeIo]
  refine ⟨fun hp hv => ?_, fun hp hv => ?_, fun h => ?_, fun hp => ?_⟩
  · rw [writeNr52_off hp hv]
    obtain ⟨hs1, hs2, hs3, hs4⟩ := zeroAll_silent s.cycles s.apu
    obtain ⟨hl1, hl2, hl3, hl4⟩ := zeroAll_lengths s.cycles s.apu
    refine ⟨rfl, hs1, hs2, hs3, hs4, hl1, hl2, hl3, hl4, zeroAll_waveRam s.cycles s.apu, ?_, fun p hm => ?_, rfl⟩
    · refine (busRead_apu (r := .nr52) rfl rfl ?_).trans (readNr52_silent rfl hs1 hs2 hs3 hs4)
      exact hd
    · obtain ⟨r, hr, hmask, hreg⟩ := apuMasks_sound hm
      refine (busRead_apu hr hreg ?_).trans (((Apu.read_powered r _ false).trans (zeroAll_read s.cycles s.apu r)).trans hmask)
      exact hd
  · rw [writeNr52_on hp hv]
  · rw [writeNr52_same h]
  · have write : ∀ {a : Word16} {r : ApuReg}, ioReg a = some (.sound r) → region a = .apu →
        busWrite a v s = { s with apu := s.apu.writeOff r v } := fun hr hreg => busWrite_sound_off hr hreg hd hp v
    rw [write (r := .nr11) rfl rfl, write (r := .nr21) rfl rfl, write (r := .nr31) rfl rfl, write (r := .nr41) rfl rfl,
      ← lengthBits_toNat]
    refine ⟨rfl, rfl, rfl, rfl, fun a ha => ?_⟩
    obtain ⟨r, hr, hreg, hno⟩ : ∃ r, ioReg a = some (.sound r) ∧ region a = .apu ∧ r.holdsLength = false := by
      fin_cases ha <;> exact ⟨_, rfl, rfl, rfl⟩
    rw [write hr hreg, writeOff_of_no_length hno]

end Sys2Proof.Machine
end

section
/-! PROOF. The joypad (R670 to R673): each line of JOYP by its select bits and its two keys, and what the host's key change does. -/

namespace Sys2Proof.Machine

/-! ### The lines (R671, R672) -/

/-- The button on line i: A, B, Select, Start (R671). -/
def Keys.buttonAt (k : Keys) (i : Nat) : Bool :=
  match i with
  | 0 => k.a
  | 1 => k.b
  | 2 => k.select
  | _ => k.start

/-- The direction on line i: Right, Left, Up, Down (R671). -/
def Keys.dpadAt (k : Keys) (i : Nat) : Bool :=
  match i with
  | 0 => k.right
  | 1 => k.left
  | 2 => k.up
  | _ => k.down

/-- Line i is low: a select bit at 0 selects its row, and the row's key is pressed. -/
def lineLow (select : BitVec 2) (k : Keys) (i : Nat) : Bool :=
  (!select.getLsbD 1 && k.buttonAt i) || (!select.getLsbD 0 && k.dpadAt i)

/-- Bit i of four bits put together, the last one lowest. -/
theorem fourBits_getLsbD : ∀ (w x y z : Bool), ∀ i < 4,
    (BitVec.ofBool z ++ BitVec.ofBool y ++ BitVec.ofBool x ++ BitVec.ofBool w).getLsbD i =
      match i with
      | 0 => w
      | 1 => x
      | 2 => y
      | _ => z := by decide

theorem Keys.buttonRow_getLsbD (k : Keys) {i : Nat} (hi : i < 4) : k.buttonRow.getLsbD i = k.buttonAt i :=
  fourBits_getLsbD k.a k.b k.select k.start i hi

theorem Keys.dpadRow_getLsbD (k : Keys) {i : Nat} (hi : i < 4) : k.dpadRow.getLsbD i = k.dpadAt i :=
  fourBits_getLsbD k.right k.left k.up k.down i hi

theorem pressedRow_getLsbD (select : BitVec 2) (k : Keys) {i : Nat} (hi : i < 4) :
    (pressedRow select k).getLsbD i = lineLow select k i := by
  have selects : ∀ x : BitVec 2, x = 0b00 ∨ x = 0b01 ∨ x = 0b10 ∨ x = 0b11 := by decide
  rw [lineLow, ← k.buttonRow_getLsbD hi, ← k.dpadRow_getLsbD hi]
  obtain rfl | rfl | rfl | rfl := selects select
  · exact BitVec.getLsbD_or
  · exact (Bool.or_false _).symm
  · rfl
  · exact BitVec.getLsbD_zero

theorem Joypad.lines_getLsbD (j : Joypad) {i : Nat} (hi : i < 4) : j.lines.getLsbD i = !lineLow j.select j.keys i := by
  rw [Joypad.lines, BitVec.getLsbD_not, decide_eq_true hi, Bool.true_and, pressedRow_getLsbD _ _ hi]

/-- JOYP's low four bits are the lines. -/
theorem Joypad.read_getLsbD (j : Joypad) {i : Nat} (hi : i < 4) : j.read.getLsbD i = !lineLow j.select j.keys i := by
  rw [← j.lines_getLsbD hi, Joypad.read, BitVec.getLsbD_append, if_pos hi]

/-- JOYP's bits 5:4 are the select bits. -/
theorem Joypad.read_select (j : Joypad) : j.read.extractLsb' 4 2 = j.select := by
  have bits : ∀ (x : BitVec 2) (y : BitVec 4), (0b11#2 ++ x ++ y : Byte).extractLsb' 4 2 = x := by decide
  exact bits j.select j.lines

/-- Some line falls when the keys change (R672). -/
theorem linesFall_iff (j : Joypad) (keys : Keys) :
    j.lines &&& ~~~{ j with keys := keys }.lines ≠ 0 ↔
      ∃ i < 4, lineLow j.select j.keys i = false ∧ lineLow j.select keys i = true := by
  have falls : ∀ i < 4, (j.lines &&& ~~~{ j with keys := keys }.lines).getLsbD i =
      (!lineLow j.select j.keys i && lineLow j.select keys i) := fun i hi => by
    rw [BitVec.getLsbD_and, BitVec.getLsbD_not, decide_eq_true hi, Bool.true_and, Joypad.lines_getLsbD _ hi, Joypad.lines_getLsbD _ hi,
      Bool.not_not]
  constructor
  · intro hne
    by_contra hno
    refine hne (BitVec.eq_of_getLsbD_eq fun i hi => ?_)
    refine (falls i hi).trans ((Bool.eq_false_iff.mpr fun hfall => hno ⟨i, hi, ?_⟩).trans BitVec.getLsbD_zero.symm)
    simpa only [Bool.and_eq_true, Bool.not_eq_true'] using hfall
  · rintro ⟨i, hi, hold, hnew⟩ hzero
    have hfall := falls i hi
    rw [hzero, hold, hnew] at hfall
    cases hfall.symm.trans BitVec.getLsbD_zero

/-! ### The key change (R672, R673) -/

/-- A key change is the new keys, a request of the joypad interrupt and an end of STOP. -/
theorem setKeys_eq (keys : Keys) (s : State) :
    setKeys keys s =
      { s with
        joypad.keys := keys
        iflag :=
          if s.joypad.lines &&& ~~~{ s.joypad with keys := keys }.lines ≠ 0 then s.iflag ||| (1#5 <<< joypadBit) else s.iflag
        cpu.stopped := if s.joypad.keys.newlyPressed keys then false else s.cpu.stopped } := by
  unfold setKeys
  dsimp only
  split <;> split <;> rfl

theorem Keys.newlyPressed_iff (old new : Keys) :
    old.newlyPressed new = true ↔
      (old.right = false ∧ new.right = true) ∨ (old.left = false ∧ new.left = true) ∨ (old.up = false ∧ new.up = true) ∨
      (old.down = false ∧ new.down = true) ∨ (old.a = false ∧ new.a = true) ∨ (old.b = false ∧ new.b = true) ∨
      (old.select = false ∧ new.select = true) ∨ (old.start = false ∧ new.start = true) := by
  simp only [Keys.newlyPressed, Bool.or_eq_true, Bool.and_eq_true, Bool.not_eq_true', or_assoc]

/-- Settles O49: a read shows the lines and the select bits, a write changes the select bits only, a key change is `setKeys_eq`. -/
theorem joypadLinesInterruptAndWake : Obligations.JoypadLinesInterruptAndWake := by
  intro s keys v hd
  have read : busRead 0xFF00 s = s.joypad.read := by
    rw [busRead_open (gateOpen_inactive hd), regionRead_device (.inl rfl), deviceRead_mapped (r := .joyp) rfl]
    rfl
  refine ⟨fun i hi => ?_, ?_, busWrite_io (r := .joyp) rfl rfl hd v, ?_⟩
  · rw [read]
    exact s.joypad.read_getLsbD hi
  · rw [read, Joypad.read_select]
  · rw [setKeys_eq]
    simp only [linesFall_iff, Keys.newlyPressed_iff]
    rfl

end Sys2Proof.Machine
end

section
/-! PROOF. The call of run_until_event (R690, R695): it returns at the first event. -/

namespace Sys2Proof.Machine

/-- What run_until_event waits for: the new-frame edge, or enough samples (R695). -/
def ShowsEvent (m : Nat) (u : State) : Prop := u.ppu.newFrameEdge = true ∨ m ≤ u.samples.length

theorem eventsNow_iff (m : Nat) (u : State) :
    ((eventsNow m u).newFrame || (eventsNow m u).soundBufferFull) = true ↔ ShowsEvent m u := by
  rw [Bool.or_eq_true, eventsNow, decide_eq_true_iff]
  rfl

theorem not_showsEvent_iff (m : Nat) (u : State) : ¬ShowsEvent m u ↔ u.ppu.newFrameEdge = false ∧ u.samples.length < m := by
  rw [ShowsEvent, not_or, Bool.not_eq_true, Nat.not_le]

/-- The first of several steps of the machine. -/
theorem core_run_succ {s u : State} (h : runStep s = .next u) (k : Nat) : Sys2Proof.core.run (k + 1) s = Sys2Proof.core.run k u := by
  have hstep : Sys2Proof.core.step s = .next u := h
  simp only [Host.Core.run, hstep]

/-- `n` steps from `s` are the first to show an event, and `t` is the state there with the event flags set. -/
structure FirstEvent (m n : Nat) (s t : State) : Prop where
  reached : ∃ u, Sys2Proof.core.run n s = .next u ∧ t = { u with events := eventsNow m u } ∧ ShowsEvent m u
  noneBefore : ∀ k, 0 < k → k < n → ∃ u, Sys2Proof.core.run k s = .next u ∧ ¬ShowsEvent m u

theorem FirstEvent.one {m : Nat} {s u : State} (hu : runStep s = .next u) (he : ShowsEvent m u) :
    FirstEvent m 1 s { u with events := eventsNow m u } :=
  ⟨⟨u, core_run_succ hu 0, rfl, he⟩, fun _ h0 h1 => absurd h1 (Nat.not_lt_of_le h0)⟩

/-- A step without an event before the first one. -/
theorem FirstEvent.cons {m n : Nat} {s u t : State} (hu : runStep s = .next u) (he : ¬ShowsEvent m u) (h : FirstEvent m n u t) :
    FirstEvent m (n + 1) s t := by
  refine ⟨by rw [core_run_succ hu]; exact h.reached, fun k h0 hk => ?_⟩
  obtain ⟨j, rfl⟩ := Nat.exists_eq_succ_of_ne_zero h0.ne'
  rw [core_run_succ hu]
  cases j with
  | zero => exact ⟨u, rfl, he⟩
  | succ j => exact h.noneBefore _ (Nat.succ_pos j) (Nat.lt_of_succ_lt_succ hk)

theorem runLoop_firstEvent {fuel m : Nat} {s t : State} (h : runLoop fuel m s = .returned t) :
    ∃ n, 0 < n ∧ n ≤ fuel ∧ FirstEvent m n s t := by
  induction fuel generalizing s with
  | zero => cases h
  | succ fuel ih =>
    rw [runLoop] at h
    split at h
    · cases h
    · cases h
    next u hu =>
      dsimp only at h
      split at h
      next he =>
        cases h
        exact ⟨1, Nat.one_pos, Nat.le_add_left 1 fuel, .one hu ((eventsNow_iff m u).mp he)⟩
      next he =>
        obtain ⟨n, -, hn, hfirst⟩ := ih h
        exact ⟨n + 1, Nat.succ_pos n, Nat.succ_le_succ hn, hfirst.cons hu (mt (eventsNow_iff m u).mpr he)⟩

/-- Settles O52: the loop goes on past a step exactly when its state shows no event. -/
theorem runUntilEventReturnsAtTheFirstEvent : Obligations.RunUntilEventReturnsAtTheFirstEvent := by
  intro fuel m s t h
  obtain ⟨n, hpos, hn, hfirst⟩ := runLoop_firstEvent h
  refine ⟨n, hpos, hn, hfirst.reached, fun k h0 hk => ?_⟩
  obtain ⟨u, hu, hno⟩ := hfirst.noneBefore k h0 hk
  exact ⟨u, hu, (not_showsEvent_iff m u).mp hno⟩

end Sys2Proof.Machine
end

section
/-! PROOF. The reset state (R711 to R714): what the registers read, and the invariants. -/

namespace Sys2Proof.Machine

section
variable (cart : Cartridge) (init : InitMem)

theorem cpuOk_resetWith : CpuOk (State.resetWith cart init).cpu :=
  ⟨show (0xB0 : Byte) &&& 0x0F = 0 by decide, rfl, rfl⟩

/-- The memories after reset are INIT_MEM's and the image. -/
theorem memoriesOk_resetWith {cart : Cartridge} {init : InitMem} (hvram : FitsIn init.vram 0x2000) (hwram : FitsIn init.wram 0x2000)
    (hhram : FitsIn init.hram 127) (hoam : FitsIn init.oam 160) (heram : FitsIn init.eram cart.extRamSize)
    (hwave : FitsIn init.waveRam 16) (hrom : FitsIn cart.rom cart.romSize) : MemoriesOk (State.resetWith cart init) :=
  ⟨hvram, hwram, hhram, hoam, heram, hwave, hrom⟩

/-- The display is on at line 0 in mode OAMScan, over a white framebuffer. -/
theorem ppuOk_resetWith : PpuOk (State.resetWith cart init) := by
  have on : (0x91 : Byte).getLsbD 7 = true := by decide
  refine .ofOn on (Nat.succ_pos _) (Nat.succ_pos _) (Nat.succ_pos _) rfl ⟨List.length_replicate, fun row hrow => ?_⟩
  rw [List.eq_of_mem_replicate hrow]
  exact List.length_replicate

theorem dmaOk_resetWith : DmaOk (State.resetWith cart init).dma :=
  ⟨Nat.zero_le _, by simp [State.resetWith], fun h => Bool.noConfusion h⟩

/-- Only ch1 runs after reset. -/
theorem apuOk_resetWith : ApuOk (State.resetWith cart init).apu := by
  constructor <;> simp [statusOk, counterOk, State.resetWith]

/-- Every mapper can hold bank 1, RAM bank 0 and MBC1's fields at 0. -/
theorem mapperOk_resetWith : MapperOk cart.kind (State.resetWith cart init).mapper := by
  have recompute : ∀ enabled : Bool, Mapper.mbc1Recompute ⟨1, 0, enabled, 0, 0, .rom⟩ = ⟨1, 0, enabled, 0, 0, .rom⟩ := by decide
  have bank : (1 : BitVec 7).toNat < 16 ∧ (1 : BitVec 7) ≠ 0 := by decide
  cases hk : cart.kind with
  | mbc0 => exact ⟨rfl, rfl⟩
  | mbc1 => exact recompute _
  | mbc2 => exact ⟨bank.1, rfl⟩
  | mbc3 => exact bank.2

/-- No register shows the cartridge or a memory. -/
theorem deviceRead_resetWith (a : Word16) : deviceRead a (State.resetWith cart init) = deviceRead a State.reset := by
  unfold deviceRead
  split
  next r _ => cases r <;> rfl
  · rfl

/-- After reset no transfer is active, so a device's address reads as it does in `State.reset`. -/
theorem busRead_resetWith {a : Word16} (h : region a = .io ∨ region a = .apu) :
    busRead a (State.resetWith cart init) = deviceRead a State.reset := by
  rw [busRead_open (gateOpen_inactive rfl), regionRead_device h, deviceRead_resetWith]

end

/-- The empty memory fits anywhere. -/
theorem fitsIn_empty (n : Nat) : FitsIn [] n := ⟨⟨List.Pairwise.nil, nofun⟩, nofun⟩

/-- Settles O60: each address is its register of the reset state, and the invariants hold for every cartridge and INIT_MEM with fitting
memories. -/
theorem resetReadsAndInvariants : Obligations.ResetReadsAndInvariants := by
  refine ⟨fun cart init => ?_, cpuOk_resetWith _ _, ?_, ⟨nofun, le_rfl, rfl⟩, ppuOk_resetWith _ _, dmaOk_resetWith _ _,
    apuOk_resetWith _ _, mapperOk_resetWith _ _⟩
  · dsimp only
    intro p hp
    obtain ⟨hdevice, hread⟩ : (region p.1 = .io ∨ region p.1 = .apu) ∧ deviceRead p.1 State.reset = p.2 := by
      fin_cases hp <;> decide
    exact (busRead_resetWith cart init hdevice).trans hread
  · exact memoriesOk_resetWith (fitsIn_empty _) (fitsIn_empty _) (fitsIn_empty _) (fitsIn_empty _) (fitsIn_empty _) (fitsIn_empty _)
      (fitsIn_empty _)

end Sys2Proof.Machine
end
